-- ==== Sys2Proof/Word.lean ====
section
/-! DEFINITION. The word of the FB6120 and the plain widths named by the manual (00, Conventions). -/

namespace Sys2Proof

/-- A word is 32 bits, bit 31 the most significant (00, Words and bits). -/
abbrev Word := BitVec 32

/-- A two-word value, the high word in bits 63-32 (00, Words and bits; R5). -/
abbrev DoubleWord := BitVec 64

/-- Every counter of the part is 32 bits wide (00, Counters; R184). -/
abbrev Counter := BitVec 32

/-- A sequence number or a generation is 16 bits wide; its arithmetic is modulo 65536 (00, Numbers). -/
abbrev Seq := BitVec 16

/-- A node or destination address is 6 bits wide (R163, R167). -/
abbrev Address := BitVec 6

end Sys2Proof
end

