-- ==== Sys2Proof/Syntax.lean ====
section
/-! DEFINITION. The commands of the block: one constructor of `Instr` per row of spec/opcode_table.json. -/

namespace Sys2Proof

/-- The side of a lane: A (acquisition) or C (collector) (00, "How the outside reaches the part"). -/
inductive Side where
  | a
  | c
deriving DecidableEq, Repr

/-- A request as it stands in the request queue: destination, tag, command code and operand words
(chapter 9, section 9.2; Table 11-3).  Tag, destination, code and operands are also what the tag cache compares (R173). -/
structure Request where
  dest     : Address
  tag      : BitVec 8
  code     : BitVec 8
  operands : List Word
deriving DecidableEq, Repr

/-- The events of the part, each whole and indivisible (spec/95), one constructor per row of spec/opcode_table.json.
The operand of a symbol is the receive lane it arrives on; the operand of a request row is the request that the agent takes
from the head of its request queue (R168, log 3); the operand of ENUMERATE is the address that the frame carries (log 4). -/
inductive Instr where
  /-- DEVICE_RESET (R180): RESET_N or power-on. -/
  | deviceReset
  /-- SYMBOL_LOCK (R144). -/
  | symbolLock (lane : Side)
  /-- LOSS_OF_LOCK (R144). -/
  | lossOfLock (lane : Side)
  /-- IDLE_SYMBOL (R144). -/
  | idleSymbol (lane : Side)
  /-- INVALID_SYMBOL (R144). -/
  | invalidSymbol (lane : Side)
  /-- START_SYMBOL (R146). -/
  | startSymbol (lane : Side)
  /-- DATA_WORD_SYMBOL (R146). -/
  | dataWordSymbol (lane : Side) (word : Word)
  /-- A_RECEIVE_FRAME_END (R150): END on A-receive. -/
  | aReceiveFrameEnd
  /-- C_RECEIVE_FRAME_END (R153): END on C-receive. -/
  | cReceiveFrameEnd
  /-- ENUMERATE (R164): the END on C-receive that closes an ENUMERATE frame which passes the checks. -/
  | enumerate (address : Address)
  /-- CREDIT_DATA_RECEIVED (R155). -/
  | creditDataReceived (lane : Side)
  /-- CREDIT_CONTROL_RECEIVED (R155). -/
  | creditControlReceived (lane : Side)
  /-- CREDIT_RESET_RECEIVED (R155). -/
  | creditResetReceived (lane : Side)
  /-- EGRESS_START (R157). -/
  | egressStart
  /-- TRANSMIT_FRAME_END (R157): the END of the frame that the transmit lane of the given side is sending. -/
  | transmitFrameEnd (lane : Side)
  /-- A_TRANSMIT_CREDIT_SYMBOL (R159). -/
  | aTransmitCreditSymbol
  /-- FORWARD_FIFO_START (R154). -/
  | forwardFifoStart
  /-- ANSWER_LIST_ENTRY (R170). -/
  | answerListEntry
  /-- ENGINE_TAKE (R60). -/
  | engineTake
  /-- SLOT_CONVERSION (R65). -/
  | slotConversion
  /-- CONVERSION_COMPLETION (R70). -/
  | conversionCompletion
  /-- HOLD_TIMER_EXPIRY (R116). -/
  | holdTimerExpiry
  /-- RELEASE_ENTRY (R120). -/
  | releaseEntry
  /-- COALESCING_TIMER_EXPIRY (R136). -/
  | coalescingTimerExpiry
  /-- REMINDER_TIMER_EXPIRY (R137). -/
  | reminderTimerExpiry
  /-- VALIDATION_FAILURE (R104). -/
  | validationFailure
  /-- COMPILATION_END (R105). -/
  | compilationEnd
  /-- SWAP (R107). -/
  | swap
  /-- IDENTIFY (R166). -/
  | identify (rq : Request)
  /-- READ_STATUS (R182). -/
  | readStatus (rq : Request)
  /-- WRITE_CHANNEL (R31). -/
  | writeChannel (rq : Request)
  /-- READ_CHANNEL (R36). -/
  | readChannel (rq : Request)
  /-- WRITE_STREAM (R52). -/
  | writeStream (rq : Request)
  /-- READ_STREAM (R53). -/
  | readStream (rq : Request)
  /-- WRITE_CLASS (R76). -/
  | writeClass (rq : Request)
  /-- READ_CLASS (R77). -/
  | readClass (rq : Request)
  /-- COPY_ACTIVE (R92). -/
  | copyActive (rq : Request)
  /-- COMMIT (R95). -/
  | commit (rq : Request)
  /-- READ_LAYOUT (R88). -/
  | readLayout (rq : Request)
  /-- FETCH_EXCEPTIONS (R130). -/
  | fetchExceptions (rq : Request)
  /-- ACK_EXCEPTIONS (R132). -/
  | ackExceptions (rq : Request)
  /-- READ_STICKY (R176). -/
  | readSticky (rq : Request)
  /-- CLEAR_STICKY (R49). -/
  | clearSticky (rq : Request)
  /-- RELEASE_HOLD_FORWARD (R118). -/
  | releaseHoldForward (rq : Request)
  /-- RELEASE_HOLD_DISCARD (R119). -/
  | releaseHoldDiscard (rq : Request)
  /-- READ_COUNTERS (R185). -/
  | readCounters (rq : Request)
  /-- CLEAR_COUNTERS (R186). -/
  | clearCounters (rq : Request)
  /-- SET_PARAMETER (R175). -/
  | setParameter (rq : Request)
  /-- READ_PARAMETER (R175). -/
  | readParameter (rq : Request)
  /-- RESET_PIPELINE (R178). -/
  | resetPipeline (rq : Request)
  /-- RESET_EXCEPTIONS (R179). -/
  | resetExceptions (rq : Request)
  /-- RESET_ALL (R180). -/
  | resetAll (rq : Request)
  /-- UNDEFINED_COMMAND (R168). -/
  | undefinedCommand (rq : Request)
deriving DecidableEq, Repr

end Sys2Proof
end

