-- ==== Sys2Proof/Decode.lean ====
section
/-! DEFINITION. The host's reading of a command from a word.  Every row of spec/opcode_table.json has an empty list of
fields and no fixed bits, so no word spells a command (log 22). -/

namespace Sys2Proof

/-- The command that a word spells by the bits of spec/opcode_table.json: the table gives no row any bits, so there is
none (log 22). -/
def decodeTableWord (_nbits _w : Nat) : Option Instr := none

end Sys2Proof
end

