-- ==== Sys2Proof/Config.lean ====
section
/-! DEFINITION. What is fixed in the part (capacities, identification codes, fixed times) and the one free value of the model. -/

namespace Sys2Proof.Config

/-- The ingress buffer has 8 entries (R151). -/
abbrev ingressEntries : Nat := 8
/-- The output queue has 4 entries (R57). -/
abbrev outputEntries : Nat := 4
/-- The transit FIFO has 4 entries (R152). -/
abbrev transitEntries : Nat := 4
/-- The forward FIFO has 4 entries (R154). -/
abbrev forwardEntries : Nat := 4
/-- The request queue has 4 entries (R167). -/
abbrev requestEntries : Nat := 4
/-- The response queue has 2 entries (R170). -/
abbrev responseEntries : Nat := 2
/-- The tag cache holds up to 4 entries (R172). -/
abbrev cacheEntries : Nat := 4
/-- The exception queue holds at most 32 records (R127). -/
abbrev exceptionEntries : Nat := 32
/-- A fetch returns up to 8 records (R130). -/
abbrev fetchPage : Nat := 8
/-- A READ_LAYOUT returns up to 64 slot entries (R88). -/
abbrev layoutPage : Nat := 64
/-- The longest layout is 96 words (R83). -/
abbrev maxLayout : Nat := 96
/-- The C-transmit data counter saturates at 15 (R155). -/
abbrev maxDataCredits : Nat := 15
/-- The C-transmit control counter saturates at 7 (R155). -/
abbrev maxControlCredits : Nat := 7
/-- The pending grant list holds at most 8 CREDIT_DATA (R159). -/
abbrev maxPendingData : Nat := 8
/-- The pending grant list holds at most 4 CREDIT_CONTROL (R159). -/
abbrev maxPendingControl : Nat := 4
/-- The sixteenth IDLE of an unbroken run makes a lane UP (R144). -/
abbrev idlesToUp : Nat := 16
/-- The fourth invalid symbol of an unbroken run makes a lane DOWN (R144). -/
abbrev invalidsToDown : Nat := 4
/-- The reminder spacing, in milliseconds (R135, R140). -/
abbrev reminderSpacing : Nat := 100
/-- The limit of reminders (R137, R140). -/
abbrev reminderLimit : Nat := 3

/-- The vendor code (R188). -/
abbrev vendorCode : BitVec 16 := 0x0A31#16
/-- The part code (R188). -/
abbrev partCode : BitVec 16 := 0x6120#16
/-- The revision code (R188). -/
abbrev revisionCode : BitVec 8 := 0x01#8

/-- FREE VALUE, DESIGN CHOICE (log 11): the word stored in the slot of the channel of the given number when the tables in
force give it no value: a null value without an output null code (R21: "defined only when a null code exists"), or a
companion that no split channel names (R29: "cannot be active").  No run from reset meets either, since the commit refuses
such a bank (R101, R102); nothing is known of the word. -/
opaque undefinedWord : Nat → Word

end Sys2Proof.Config
end

