-- ==== Sys2Proof/Machine/State.lean ====
section
/-! DEFINITION. The state of the part as plain data: every block of Figure 1 of the manual, and the queue of events. -/

namespace Sys2Proof.Machine

/-! ## Records of the table banks -/

/-- The kind of a channel descriptor (Table 2-1). -/
inductive ChannelKind where
  | disabled | primary | companion
deriving DecidableEq, Repr

/-- The five number formats (Table 1-1). -/
inductive Format where
  | i16 | ob16 | i32 | sr | lr
deriving DecidableEq, Repr

/-- The mode of a channel (Table 2-1). -/
inductive ChannelMode where
  | plain | split
deriving DecidableEq, Repr

/-- The rounding of a real output (Table 2-1). -/
inductive Rounding where
  | round | chop
deriving DecidableEq, Repr

/-- The overflow policies (Table 2-2). -/
inductive OverflowPolicy where
  | zero | saturate | wrap | divert
deriving DecidableEq, Repr

/-- The underflow policies (Table 2-2). -/
inductive UnderflowPolicy where
  | zero | wrap | divert
deriving DecidableEq, Repr

/-- The range policies (Table 2-2). -/
inductive RangePolicy where
  | zero | saturate | divert
deriving DecidableEq, Repr

/-- The null policies (Table 2-2). -/
inductive NullPolicy where
  | propagate | zero | divert
deriving DecidableEq, Repr

/-- The report modes (R46). -/
inductive ReportMode where
  | first | every
deriving DecidableEq, Repr

/-- A channel descriptor, field by field as Table 2-1.  A null code is held as its 32-bit signed word (R191), gain and
offset as their 64 bits, so that they are returned bit for bit as written (R36, R192). -/
structure Descriptor where
  kind         : ChannelKind
  stream       : Fin 8
  position     : Fin 64
  inputFormat  : Format
  inputNull    : Option Word
  gain         : DoubleWord
  offset       : DoubleWord
  mode         : ChannelMode
  companion    : Option (Fin 128)
  outputFormat : Format
  rounding     : Rounding
  outputNull   : Option Word
  outputClass  : Fin 8
  overflow     : OverflowPolicy
  underflow    : UnderflowPolicy
  range        : RangePolicy
  null         : NullPolicy
  report       : ReportMode
deriving DecidableEq, Repr

/-- The reset values of Table 2-1; gain 1.0 is sign 0, exponent field 2047, fraction 0 and offset 0.0 every bit zero (R30). -/
def Descriptor.reset : Descriptor where
  kind := .disabled
  stream := 0
  position := 0
  inputFormat := .i32
  inputNull := none
  gain := 0x3FF8000000000000#64
  offset := 0#64
  mode := .plain
  companion := none
  outputFormat := .i32
  rounding := .round
  outputNull := none
  outputClass := 0
  overflow := .zero
  underflow := .zero
  range := .zero
  null := .zero
  report := .first

/-- A stream record (Table 3-1). -/
structure StreamRecord where
  enabled  : Bool
  inputId  : BitVec 8
  outputId : BitVec 8
  /-- declared sample word count, 1-64 -/
  declared : Nat
deriving DecidableEq, Repr

/-- The reset value of the stream record of index `i` (Table 3-1). -/
def StreamRecord.reset (i : Fin 8) : StreamRecord where
  enabled := false
  inputId := BitVec.ofNat 8 i.val
  outputId := BitVec.ofNat 8 i.val
  declared := 1

/-- The alignments of a class (Table 4-1). -/
inductive Alignment where
  | one | two | four | eight
deriving DecidableEq, Repr

/-- A class record (Table 4-1). -/
structure ClassRecord where
  alignment   : Alignment
  /-- member limit, 0-96 -/
  memberLimit : Nat
  rank        : Fin 8
deriving DecidableEq, Repr

/-- The reset value of the class record of number `i` (Table 4-1). -/
def ClassRecord.reset (i : Fin 8) : ClassRecord where
  alignment := .one
  memberLimit := 96
  rank := i

/-- A table bank: 128 channel descriptors, 8 stream records and 8 class records (R90). -/
structure Bank where
  channels : Vector Descriptor 128
  streams  : Vector StreamRecord 8
  classes  : Vector ClassRecord 8
deriving DecidableEq, Repr

/-- A bank with every record at its reset value (R30, R51, R75, R90). -/
def Bank.reset : Bank where
  channels := Vector.replicate 128 Descriptor.reset
  streams := #v[.reset 0, .reset 1, .reset 2, .reset 3, .reset 4, .reset 5, .reset 6, .reset 7]
  classes := #v[.reset 0, .reset 1, .reset 2, .reset 3, .reset 4, .reset 5, .reset 6, .reset 7]

/-! ## Compiled layouts -/

/-- The role of a slot entry (R85). -/
inductive SlotRole where
  | primary | companion
deriving DecidableEq, Repr

/-- A slot entry of a compiled layout (R85). -/
structure SlotEntry where
  offset  : Nat
  width   : Nat
  channel : Fin 128
  role    : SlotRole
deriving DecidableEq, Repr

/-- The compiled layout of one enabled stream: its slot entries in ascending order of offset and its length L (R85). -/
structure Layout where
  entries : List SlotEntry
  length  : Nat
deriving DecidableEq, Repr

/-- One layout, or none, for each of the 8 stream record indices (R86). -/
abbrev LayoutSet := Vector (Option Layout) 8

/-- The set that holds no layout for any index (R86). -/
def LayoutSet.none : LayoutSet := Vector.replicate 8 Option.none

/-- The commit phase (R94). -/
inductive CommitPhase where
  | idle | compiling | swapPending
deriving DecidableEq, Repr

/-! ## Frames -/

/-- A frame as received: its header words and payload words, every bit as received, without the CRC word (R189). -/
structure Frame where
  words : List Word
deriving DecidableEq, Repr

/-- A conditioned DATA frame that this part produced (R71). -/
structure CondFrame where
  exception  : Bool
  gap        : Bool
  released   : Bool
  timedOut   : Bool
  refused    : Bool
  node       : Address
  outputId   : BitVec 8
  inputSeq   : Seq
  outputSeq  : Seq
  timestamp  : Word
  generation : Seq
  payload    : List Word
deriving DecidableEq, Repr

/-- A frame of the output queue: one produced by this part, or one passed through unchanged (R61, R62). -/
inductive OutFrame where
  | conditioned (f : CondFrame)
  | passed (f : Frame)
deriving DecidableEq, Repr

/-- The statuses of a response (Table 9-3). -/
inductive Status where
  | ok | busy | badCommand | badIndex | badValue | stale | notHeld | inProgress | aborted | commitFailed
deriving DecidableEq, Repr

/-- A response frame (R169). -/
structure Response where
  source : Address
  tag    : BitVec 8
  code   : BitVec 8
  status : Status
  data   : List Word
deriving DecidableEq, Repr

/-- A frame that the agent produces: a RESPONSE or a REPORT (R170). -/
inductive AgentFrame where
  | response (r : Response)
  | report (source : Address)
deriving DecidableEq, Repr

/-- An entry of the tag cache: the completed request, the response produced for it (R172), and whether an ENUMERATE was taken while
the request, a COMMIT, was deferred, so that its clearing of the cache is still to reach the entry (R110; the model's own field,
log 24). -/
structure CacheEntry where
  request  : Request
  response : Response
  crossed  : Bool
deriving DecidableEq, Repr

/-! ## Lanes -/

/-- The state of a receive lane (R144). -/
inductive RxState where
  | down | syncing | up
deriving DecidableEq, Repr

/-- The assembly buffer of a lane inside a frame: the words stored since START, whether more words arrived than its kind
admits (the buffer then stores no more, R148), and whether an invalid symbol marked the frame corrupt (R146). -/
structure Assembly where
  words   : List Word
  overrun : Bool
  corrupt : Bool
deriving DecidableEq, Repr

/-- A receive lane (R144, R146); `assembly` is none between frames. -/
structure RxLane where
  state        : RxState
  idleCount    : Nat
  invalidCount : Nat
  assembly     : Option Assembly
deriving DecidableEq, Repr

/-- A receive lane after device reset: DOWN, both counts 0, assembly buffer empty (R144). -/
def RxLane.reset : RxLane where
  state := .down
  idleCount := 0
  invalidCount := 0
  assembly := none

/-- A transmit lane: IDLE, or SENDING a frame whose words (header, payload and CRC word) are given (R145). -/
inductive TxLane where
  | idle
  | sending (words : List Word)
deriving DecidableEq, Repr

/-- The credit symbols (R146). -/
inductive CreditSymbol where
  | data | control | reset
deriving DecidableEq, Repr

/-! ## Conversion engine -/

/-- The runtime state of a stream record index (R54). -/
structure StreamRuntime where
  expected      : Seq
  expectedValid : Bool
  nextOutput    : Seq
  lengthSticky  : Bool
deriving DecidableEq, Repr

/-- The values of R54 after device reset and RESET ALL. -/
def StreamRuntime.reset : StreamRuntime where
  expected := 0
  expectedValid := false
  nextOutput := 0
  lengthSticky := false

/-- The four sticky flags of a channel (section 2.6). -/
structure Sticky where
  overflow  : Bool
  underflow : Bool
  range     : Bool
  null      : Bool
deriving DecidableEq, Repr

/-- All four flags clear (R50). -/
def Sticky.clear : Sticky := ⟨false, false, false, false⟩

/-- A conversion under way: what the engine holds of the frame at the head of the ingress buffer (R58, R60).
`remaining` are the slots still to settle, in ascending channel number (R67; log 6); `payload` is the conditioned payload
built so far, padding words zero (R66). -/
structure Conversion where
  generation : Seq
  stream     : Fin 8
  gap        : Bool
  exception  : Bool
  diverting  : Bool
  remaining  : List SlotEntry
  payload    : List Word
deriving DecidableEq, Repr

/-- The conversion engine (R58). -/
inductive Engine where
  | idle
  | converting (c : Conversion)
deriving DecidableEq, Repr

/-! ## Timers and the divert hold -/

/-- A timer: none when stopped, else the whole milliseconds that remain (00, Time). -/
abbrev Timer := Option Nat

/-- Why a RELEASING hold was released (R111). -/
inductive ReleaseReason where
  | request | timeout
deriving DecidableEq, Repr

/-- The divert hold (R111). -/
inductive Hold where
  | empty
  | held (f : CondFrame) (timer : Timer)
  | releasing (f : CondFrame) (reason : ReleaseReason)
deriving DecidableEq, Repr

/-! ## Exception unit -/

/-- The class of a channel condition (section 2.3). -/
inductive ConditionClass where
  | overflow | underflow | range | nullInput
deriving DecidableEq, Repr

/-- The class of an exception record (R125). -/
inductive RecordClass where
  | channel (c : ConditionClass)
  | length
  | holdBusy
deriving DecidableEq, Repr

/-- The action of an exception record (R44). -/
inductive Action where
  | zero | saturate | wrap | propagate | diverted | none
deriving DecidableEq, Repr

/-- An exception record (Table 7-1).  The value fields are lists of 0 to 2 words, absent fields are none. -/
structure ExceptionRecord where
  seq           : Seq
  cls           : RecordClass
  action        : Action
  lossBefore    : Bool
  absent        : Bool
  companion     : Bool
  wrappedToNull : Bool
  generation    : Seq
  stream        : Fin 8
  inputSeq      : Seq
  channel       : Option (Fin 128)
  inputValue    : List Word
  storedValue   : List Word
  exponent      : Option (BitVec 16)
  counts        : Option (BitVec 16 × BitVec 16)
deriving DecidableEq, Repr

/-- The notice states (Table 7-3). -/
inductive NoticeState where
  | quiet | gathering | announced
deriving DecidableEq, Repr

/-- The reasons of a notice (R139). -/
inductive NoticeReason where
  | threshold | interval | reminder
deriving DecidableEq, Repr

/-- The state of the exception unit (Figure 7-1). -/
structure ExceptionUnit where
  queue         : List ExceptionRecord
  nextSeq       : Seq
  lost          : Counter
  lossPending   : Bool
  notice        : NoticeState
  coalescing    : Timer
  reminder      : Timer
  reminderCount : Nat
  slot          : Option NoticeReason
deriving DecidableEq, Repr

/-- The exception unit after device reset (Figure 7-1). -/
def ExceptionUnit.reset : ExceptionUnit where
  queue := []
  nextSeq := 0
  lost := 0
  lossPending := false
  notice := .quiet
  coalescing := none
  reminder := none
  reminderCount := 0
  slot := none

/-! ## Parameters and counters -/

/-- The values of the parameter UNMATCHED (R62). -/
inductive Unmatched where
  | forward | discard
deriving DecidableEq, Repr

/-- The parameters of the agent (R175). -/
structure Params where
  coalesceInterval : Nat
  noticeThreshold  : Nat
  holdTimeout      : Nat
  unmatched        : Unmatched
deriving DecidableEq, Repr

/-- The reset values of R175. -/
def Params.reset : Params where
  coalesceInterval := 5
  noticeThreshold := 8
  holdTimeout := 50
  unmatched := .forward

/-- The six counters kept for each receive lane (Table 8-3). -/
structure RxCounters where
  laneDowns      : Counter
  truncated      : Counter
  tooLong        : Counter
  malformed      : Counter
  crcErrors      : Counter
  wrongDirection : Counter
deriving DecidableEq, Repr

/-- The LANE group (Table 10-2). -/
structure LaneCounters where
  a               : RxCounters
  c               : RxCounters
  ingressOverflow : Counter
  transitOverflow : Counter
  forwardOverflow : Counter
deriving DecidableEq, Repr

/-- The three engine counters of a stream record index (Table 3-2). -/
structure StreamCounters where
  converted  : Counter
  exceptions : Counter
  gaps       : Counter
deriving DecidableEq, Repr

/-- The ENGINE group (Table 10-2). -/
structure EngineCounters where
  streams              : Vector StreamCounters 8
  unmatchedForwarded   : Counter
  unmatchedDiscarded   : Counter
  conditionedForwarded : Counter
deriving DecidableEq, Repr

/-- The HOLD group (Table 6-2). -/
structure HoldCounters where
  diverted  : Counter
  refused   : Counter
  discarded : Counter
  timeouts  : Counter
deriving DecidableEq, Repr

/-- Every counter of a lane at 0. -/
def RxCounters.zero : RxCounters := ⟨0, 0, 0, 0, 0, 0⟩
/-- Every LANE counter at 0 (R162). -/
def LaneCounters.zero : LaneCounters := ⟨.zero, .zero, 0, 0, 0⟩
/-- Every ENGINE counter at 0 (R74). -/
def EngineCounters.zero : EngineCounters := ⟨Vector.replicate 8 ⟨0, 0, 0⟩, 0, 0, 0⟩
/-- Every HOLD counter at 0 (R124). -/
def HoldCounters.zero : HoldCounters := ⟨0, 0, 0, 0⟩

/-! ## The state of the part -/

/-- The state of the part: the blocks of Figure 1, in the order of INVENTORY.md. -/
structure State where
  /-- the receive lane of the A side (R144) -/
  aRx : RxLane
  /-- the receive lane of the C side (R144) -/
  cRx : RxLane
  /-- the transmit lane of the A side (R145) -/
  aTx : TxLane
  /-- the transmit lane of the C side (R145) -/
  cTx : TxLane
  /-- the C-transmit data credit counter, 0-15 (R155) -/
  dataCredits : Nat
  /-- the C-transmit control credit counter, 0-7 (R155) -/
  controlCredits : Nat
  /-- the count of outstanding upstream data credits, 0-8 (R158) -/
  outstanding : Nat
  /-- the pending grant list of A-transmit (R159) -/
  grants : List CreditSymbol
  /-- the MODEL's own record of the credit symbol that A-transmit sent last (log 12) -/
  lastCreditSent : Option CreditSymbol
  /-- the ingress buffer (R151) -/
  ingress : List Frame
  /-- the transit FIFO (R152) -/
  transit : List Frame
  /-- the forward FIFO (R154) -/
  forward : List Frame
  /-- the occupied entries of the output queue (R57) -/
  outQueue : List OutFrame
  /-- the active bank (R90) -/
  active : Bank
  /-- the shadow bank (R90) -/
  shadow : Bank
  /-- the active compiled layouts (R86) -/
  layouts : LayoutSet
  /-- the pending layouts of a commit whose compilation has ended (R86, R103) -/
  pendingLayouts : Option LayoutSet
  /-- the generation (R93) -/
  generation : Seq
  /-- the commit phase (R94) -/
  phase : CommitPhase
  /-- the conversion engine (R58) -/
  engine : Engine
  /-- the runtime state of each stream record index (R54) -/
  runtime : Vector StreamRuntime 8
  /-- the sticky flags of each channel (section 2.6) -/
  sticky : Vector Sticky 128
  /-- the divert hold (R111) -/
  hold : Hold
  /-- the exception unit (Figure 7-1) -/
  exc : ExceptionUnit
  /-- the node address (R163) -/
  nodeAddress : Address
  /-- the request queue (R167) -/
  requests : List Request
  /-- the response queue (R170) -/
  responses : List AgentFrame
  /-- the answer list (R170) -/
  answers : List AgentFrame
  /-- the deferred COMMIT (R171) -/
  deferredCommit : Option Request
  /-- whether an ENUMERATE was taken during the commit in progress (R110; log 24) -/
  commitEnumerated : Bool
  /-- the deferred RELEASE_HOLD (R171) -/
  deferredRelease : Option Request
  /-- the tag cache, oldest entry first (R172) -/
  cache : List CacheEntry
  /-- the parameters (R175) -/
  params : Params
  /-- the LANE counters (R162) -/
  laneCounters : LaneCounters
  /-- the ENGINE counters (R74) -/
  engineCounters : EngineCounters
  /-- the HOLD counters (R124) -/
  holdCounters : HoldCounters
  /-- the request-drop counter of the AGENT group (R153) -/
  requestDrops : Counter
  /-- the replay counter of the AGENT group (R173) -/
  replays : Counter
  /-- the MODEL's queue of events not yet taken, first in first out (log 1) -/
  pending : List Instr
deriving DecidableEq, Repr

/-- The faults of a step: NONE.  The manual names no event that stops the part: bad frames are dropped and counted (R148),
bad requests are answered (Table 9-3), and exceptional conversions store a replacement value (chapter 2).  No meaning
raises a fault, which is safe: nothing is cut short. -/
inductive Fault where
deriving DecidableEq, Repr

/-- The refusals of a step.  -/
inductive Refusal where
  /-- Raised by an arm of `exec` whose command has no meaning yet; no arm does.  Safe: the machine stops where the part
  goes on. -/
  | notModelled (mnemonic : String)
deriving DecidableEq, Repr

/-- The part after device reset (R180; Figures 7-1 and 9-1; Tables 2-1, 3-1, 4-1; R54, R93, R144, R145, R155, R158, R184). -/
def State.reset : State where
  aRx := .reset
  cRx := .reset
  aTx := .idle
  cTx := .idle
  dataCredits := 0
  controlCredits := 0
  outstanding := 0
  grants := []
  lastCreditSent := none
  ingress := []
  transit := []
  forward := []
  outQueue := []
  active := .reset
  shadow := .reset
  layouts := .none
  pendingLayouts := none
  generation := 0
  phase := .idle
  engine := .idle
  runtime := Vector.replicate 8 .reset
  sticky := Vector.replicate 128 .clear
  hold := .empty
  exc := .reset
  nodeAddress := 0
  requests := []
  responses := []
  answers := []
  deferredCommit := none
  commitEnumerated := false
  deferredRelease := none
  cache := []
  params := .reset
  laneCounters := .zero
  engineCounters := .zero
  holdCounters := .zero
  requestDrops := 0
  replays := 0
  pending := []

end Sys2Proof.Machine
end

