-- ==== Sys2Proof/Machine/Operands.lean ====
section
/-! DEFINITION. Bit fields, code values (Table 11-7), command codes (Table 11-5), and the images of the channel, stream and
class records (Table 11-4, R191, R192), read and written. -/

namespace Sys2Proof.Machine

/-! ## Bit fields -/

/-- The bits `lo + len - 1` down to `lo` of a word, as a number. -/
def bits (w : Word) (lo len : Nat) : Nat := (w.extractLsb' lo len).toNat

/-- A number as a field of `n` bits. -/
def bitsOf (n v : Nat) : BitVec n := BitVec.ofNat n v

/-- A flag as a field of one bit. -/
def flagBit (b : Bool) : BitVec 1 := BitVec.ofBool b

/-- The high word of a two-word value, which stands first (00, Words and bits). -/
def highWord (d : DoubleWord) : Word := d.extractLsb' 32 32

/-- The low word of a two-word value. -/
def lowWord (d : DoubleWord) : Word := d.extractLsb' 0 32

/-- The two-word value of a high and a low word. -/
def doubleWord (hi lo : Word) : DoubleWord := hi ++ lo

/-- A number that lies in 0 to n - 1, or none. -/
def finOf? (n v : Nat) : Option (Fin n) := if h : v < n then some ⟨v, h⟩ else none

/-- One more, but not beyond 2^32 - 1 (R184). -/
def satInc (c : Counter) : Counter := if c = 0xFFFFFFFF#32 then c else c + 1

/-! ## Command codes (Table 11-5) -/

abbrev CommandCode.identify        : BitVec 8 := 0x01#8
abbrev CommandCode.readStatus      : BitVec 8 := 0x02#8
abbrev CommandCode.writeChannel    : BitVec 8 := 0x03#8
abbrev CommandCode.readChannel     : BitVec 8 := 0x04#8
abbrev CommandCode.writeStream     : BitVec 8 := 0x05#8
abbrev CommandCode.readStream      : BitVec 8 := 0x06#8
abbrev CommandCode.writeClass      : BitVec 8 := 0x07#8
abbrev CommandCode.readClass       : BitVec 8 := 0x08#8
abbrev CommandCode.copyActive      : BitVec 8 := 0x09#8
abbrev CommandCode.commit          : BitVec 8 := 0x0A#8
abbrev CommandCode.readLayout      : BitVec 8 := 0x0B#8
abbrev CommandCode.fetchExceptions : BitVec 8 := 0x0C#8
abbrev CommandCode.ackExceptions   : BitVec 8 := 0x0D#8
abbrev CommandCode.readSticky      : BitVec 8 := 0x0E#8
abbrev CommandCode.clearSticky     : BitVec 8 := 0x0F#8
abbrev CommandCode.releaseHold     : BitVec 8 := 0x10#8
abbrev CommandCode.readCounters    : BitVec 8 := 0x11#8
abbrev CommandCode.clearCounters   : BitVec 8 := 0x12#8
abbrev CommandCode.setParameter    : BitVec 8 := 0x13#8
abbrev CommandCode.readParameter   : BitVec 8 := 0x14#8
abbrev CommandCode.reset           : BitVec 8 := 0x15#8

/-- "Command codes hex 00 and hex 16-FF name no command" (section 11.6). -/
def commandDefined (code : BitVec 8) : Bool := decide (1 ≤ code.toNat ∧ code.toNat ≤ 0x15)

/-- "Four commands are admitted by broadcast: IDENTIFY, READ_STATUS, CLEAR_COUNTERS and RESET" (R174). -/
def broadcastAdmitted (code : BitVec 8) : Bool :=
  code == CommandCode.identify || code == CommandCode.readStatus ||
  code == CommandCode.clearCounters || code == CommandCode.reset

/-- Destination 63 is a broadcast (R174). -/
def broadcastAddress : Address := 63#6

/-- The operand codes of RELEASE_HOLD (Table 11-5). -/
abbrev ReleaseCode.forward : BitVec 8 := 1#8
abbrev ReleaseCode.discard : BitVec 8 := 2#8

/-- The RESET scopes (Table 11-7). -/
abbrev ScopeCode.pipeline   : BitVec 8 := 1#8
abbrev ScopeCode.exceptions : BitVec 8 := 2#8
abbrev ScopeCode.all        : BitVec 8 := 3#8

/-- The code in bits 7-0 of a request's one operand word (RELEASE_HOLD, RESET, the group selectors; Table 11-5).  None
where the request carries no operand word, or several: the operand count is then wrong (R168). -/
def operandCode (rq : Request) : Option (BitVec 8) :=
  match rq.operands with
  | [w] => some (w.extractLsb' 0 8)
  | _   => none

/-- A RELEASE_HOLD belongs to a row unless it carries the operand code `other` of the other row; one whose operand names
neither is answered BAD_VALUE (R117) by whichever row takes it (log 3). -/
def isRelease (other : BitVec 8) (rq : Request) : Bool :=
  rq.code == CommandCode.releaseHold && operandCode rq != some other

/-- A RESET belongs to a row unless it carries the scope of one of the two other rows (R177; log 3). -/
def isReset (other1 other2 : BitVec 8) (rq : Request) : Bool :=
  rq.code == CommandCode.reset && operandCode rq != some other1 && operandCode rq != some other2

/-! ## Code values (Table 11-7) -/

def kindOfCode : Nat → Option ChannelKind
  | 0 => some .disabled | 1 => some .primary | 2 => some .companion | _ => none

def ChannelKind.code : ChannelKind → BitVec 2
  | .disabled => 0 | .primary => 1 | .companion => 2

def formatOfCode : Nat → Option Format
  | 0 => some .i16 | 1 => some .ob16 | 2 => some .i32 | 3 => some .sr | 4 => some .lr | _ => none

def Format.code : Format → BitVec 3
  | .i16 => 0 | .ob16 => 1 | .i32 => 2 | .sr => 3 | .lr => 4

/-- The policies each field admits, by the codes ZERO 0, SATURATE 1, WRAP 2, PROPAGATE 3, DIVERT 4 (R33, Table 2-2). -/
def overflowOfCode : Nat → Option OverflowPolicy
  | 0 => some .zero | 1 => some .saturate | 2 => some .wrap | 4 => some .divert | _ => none

def underflowOfCode : Nat → Option UnderflowPolicy
  | 0 => some .zero | 2 => some .wrap | 4 => some .divert | _ => none

def rangeOfCode : Nat → Option RangePolicy
  | 0 => some .zero | 1 => some .saturate | 4 => some .divert | _ => none

def nullOfCode : Nat → Option NullPolicy
  | 0 => some .zero | 3 => some .propagate | 4 => some .divert | _ => none

def OverflowPolicy.code : OverflowPolicy → BitVec 4
  | .zero => 0 | .saturate => 1 | .wrap => 2 | .divert => 4

def UnderflowPolicy.code : UnderflowPolicy → BitVec 4
  | .zero => 0 | .wrap => 2 | .divert => 4

def RangePolicy.code : RangePolicy → BitVec 4
  | .zero => 0 | .saturate => 1 | .divert => 4

def NullPolicy.code : NullPolicy → BitVec 4
  | .zero => 0 | .propagate => 3 | .divert => 4

/-- Mode and rounding codes (Table 11-4: 0 PLAIN, 1 SPLIT; 0 ROUND, 1 CHOP) and report mode (0 FIRST, 1 EVERY). -/
def modeOfBit (b : Bool) : ChannelMode := if b then .split else .plain
def roundingOfBit (b : Bool) : Rounding := if b then .chop else .round
def reportOfBit (b : Bool) : ReportMode := if b then .every else .first
def ChannelMode.bit : ChannelMode → BitVec 1 | .plain => 0 | .split => 1
def Rounding.bit : Rounding → BitVec 1 | .round => 0 | .chop => 1
def ReportMode.bit : ReportMode → BitVec 1 | .first => 0 | .every => 1

def alignmentOfWords : Nat → Option Alignment
  | 1 => some .one | 2 => some .two | 4 => some .four | 8 => some .eight | _ => none

/-- The number of words of an alignment (Table 4-1). -/
def Alignment.words : Alignment → Nat
  | .one => 1 | .two => 2 | .four => 4 | .eight => 8

def Status.code : Status → BitVec 8
  | .ok => 0 | .busy => 1 | .badCommand => 2 | .badIndex => 3 | .badValue => 4 | .stale => 5 | .notHeld => 6
  | .inProgress => 7 | .aborted => 8 | .commitFailed => 9

def RecordClass.code : RecordClass → BitVec 4
  | .channel .overflow => 1 | .channel .underflow => 2 | .channel .range => 3 | .channel .nullInput => 4
  | .length => 5 | .holdBusy => 6

def Action.code : Action → BitVec 4
  | .zero => 0 | .saturate => 1 | .wrap => 2 | .propagate => 3 | .diverted => 4 | .none => 5

def NoticeReason.code : NoticeReason → BitVec 8
  | .threshold => 1 | .interval => 2 | .reminder => 3

def Hold.code : Hold → BitVec 8
  | .empty => 0 | .held _ _ => 1 | .releasing _ _ => 2

def NoticeState.code : NoticeState → BitVec 8
  | .quiet => 0 | .gathering => 1 | .announced => 2

def CommitPhase.code : CommitPhase → BitVec 8
  | .idle => 0 | .compiling => 1 | .swapPending => 2

def Engine.code : Engine → BitVec 8
  | .idle => 0 | .converting _ => 1

def RxState.code : RxState → BitVec 8
  | .down => 0 | .syncing => 1 | .up => 2

def TxLane.code : TxLane → BitVec 8
  | .idle => 0 | .sending _ => 1

def SlotRole.code : SlotRole → BitVec 8
  | .primary => 1 | .companion => 2

def Unmatched.code : Unmatched → Nat
  | .forward => 0 | .discard => 1

/-! ## The channel descriptor image (Table 11-4; R32 to R35, R192) -/

/-- Whether a null code is a raw value of the format written beside it (R34); a real format takes none. -/
def nullCodeFits (f : Format) (w : Word) : Bool :=
  match f with
  | .i16  => decide (-32768 ≤ w.toInt ∧ w.toInt ≤ 32767)
  | .ob16 => decide (0 ≤ w.toInt ∧ w.toInt ≤ 65535)
  | .i32  => true
  | .sr   => false
  | .lr   => false

/-- An optional null code: absent and unchecked where its presence flag is clear, refused where it does not fit (R34, R192). -/
def nullCodeField? (present : Bool) (f : Format) (w : Word) : Option (Option Word) :=
  if present then (if nullCodeFits f w then some (some w) else none) else some none

/-- The companion field: present exactly with mode SPLIT, and then in 0-127 (R32). -/
def companionField? (mode : ChannelMode) (present : Bool) (v : Nat) : Option (Option (Fin 128)) :=
  match mode, present with
  | .plain, false => some none
  | .split, true  => (finOf? 128 v).map some
  | _, _          => none

/-- An LR value encoded as the marked null: exponent field 0 and sign 1, whatever the fraction (R6, R35). -/
def lrIsMarkedNull (d : DoubleWord) : Bool :=
  (d.extractLsb' 51 12 == 0#12) && d.getLsbD 63

/-- The checks of R35: gain or offset a marked null; an LR input at position 63; a COMPANION with a real output. -/
def descriptorSound (d : Descriptor) : Bool :=
  !lrIsMarkedNull d.gain && !lrIsMarkedNull d.offset &&
  !(d.inputFormat == .lr && d.position == 63) &&
  !(d.kind == .companion && (d.outputFormat == .sr || d.outputFormat == .lr))

/-- The descriptor of an image of eight words, or none where a check of R32 to R35 fails (answered BAD_VALUE, R31), the
image of another length among them (R168). -/
def decodeDescriptor (image : List Word) : Option Descriptor :=
  match image with
  | [w0, w1, w2, w3, w4, w5, w6, w7] => do
    let kind ← kindOfCode (bits w0 30 2)
    let mode := modeOfBit (w0.getLsbD 29)
    let stream ← finOf? 8 (bits w0 24 4)
    let outputClass ← finOf? 8 (bits w0 20 4)
    let inputFormat ← formatOfCode (bits w0 17 3)
    let outputFormat ← formatOfCode (bits w0 14 3)
    let position ← finOf? 64 (bits w0 7 7)
    let inputNull ← nullCodeField? (w0.getLsbD 5) inputFormat w2
    let outputNull ← nullCodeField? (w0.getLsbD 4) outputFormat w3
    let companion ← companionField? mode (w0.getLsbD 3) (bits w1 8 8)
    let overflow ← overflowOfCode (bits w1 28 4)
    let underflow ← underflowOfCode (bits w1 24 4)
    let range ← rangeOfCode (bits w1 20 4)
    let null ← nullOfCode (bits w1 16 4)
    let d : Descriptor :=
      { kind, stream, position, inputFormat, inputNull, gain := doubleWord w4 w5, offset := doubleWord w6 w7, mode,
        companion, outputFormat, rounding := roundingOfBit (w0.getLsbD 28), outputNull, outputClass, overflow,
        underflow, range, null, report := reportOfBit (w0.getLsbD 6) }
    if descriptorSound d then some d else none
  | _ => none

/-- The image of a descriptor; an absent field is zero with its flag clear, unnamed bits are zero (R192). -/
def encodeDescriptor (d : Descriptor) : List Word :=
  [ d.kind.code ++ d.mode.bit ++ d.rounding.bit ++ bitsOf 4 d.stream ++ bitsOf 4 d.outputClass ++
      d.inputFormat.code ++ d.outputFormat.code ++ bitsOf 7 d.position ++ d.report.bit ++
      flagBit d.inputNull.isSome ++ flagBit d.outputNull.isSome ++ flagBit d.companion.isSome ++ 0#3,
    d.overflow.code ++ d.underflow.code ++ d.range.code ++ d.null.code ++
      (match d.companion with | some k => bitsOf 8 k | none => 0#8) ++ 0#8,
    d.inputNull.getD 0, d.outputNull.getD 0,
    highWord d.gain, lowWord d.gain, highWord d.offset, lowWord d.offset ]

/-! ## Stream and class record images (R191, R192) -/

def enabledOfCode : Nat → Option Bool
  | 0 => some false | 1 => some true | _ => none

/-- The stream record of a one-word image, or none where a check of R52 fails. -/
def decodeStream (image : List Word) : Option StreamRecord :=
  match image with
  | [w] => do
    let enabled ← enabledOfCode (bits w 30 2)
    let declared := bits w 0 8
    if 1 ≤ declared ∧ declared ≤ 64 then
      some { enabled, inputId := w.extractLsb' 16 8, outputId := w.extractLsb' 8 8, declared }
    else none
  | _ => none

def encodeStream (r : StreamRecord) : List Word :=
  [0#1 ++ flagBit r.enabled ++ 0#6 ++ r.inputId ++ r.outputId ++ bitsOf 8 r.declared]

/-- The class record of a one-word image, or none where a check of R76 fails. -/
def decodeClass (image : List Word) : Option ClassRecord :=
  match image with
  | [w] => do
    let alignment ← alignmentOfWords (bits w 24 8)
    let memberLimit := bits w 8 8
    let rank ← finOf? 8 (bits w 0 8)
    if memberLimit ≤ 96 then some { alignment, memberLimit, rank } else none
  | _ => none

def encodeClass (r : ClassRecord) : List Word :=
  [bitsOf 8 r.alignment.words ++ 0#8 ++ bitsOf 8 r.memberLimit ++ bitsOf 8 r.rank]

/-! ## Records of a bank, by index -/

def Bank.channel (b : Bank) (i : Fin 128) : Descriptor := b.channels.get i
def Bank.stream (b : Bank) (i : Fin 8) : StreamRecord := b.streams.get i
def Bank.classRecord (b : Bank) (i : Fin 8) : ClassRecord := b.classes.get i

def Bank.setChannel (b : Bank) (i : Fin 128) (d : Descriptor) : Bank := { b with channels := b.channels.set i.val d i.isLt }
def Bank.setStream (b : Bank) (i : Fin 8) (r : StreamRecord) : Bank := { b with streams := b.streams.set i.val r i.isLt }
def Bank.setClass (b : Bank) (i : Fin 8) (r : ClassRecord) : Bank := { b with classes := b.classes.set i.val r i.isLt }

end Sys2Proof.Machine
end

