-- ==== Sys2Proof/Machine/Arith.lean ====
section
/-! DEFINITION. Number formats and conversion arithmetic (chapter 1), exact: every decoded sample, gain and offset is a
whole multiple of 2^-2097 and every y a whole multiple of 2^-4194 (R9), so x, gain and offset are Ints counted in units of
2^-2097 and y is an Int counted in units of 2^-4194. -/

namespace Sys2Proof.Machine

/-- A sample, a gain or an offset is counted in units of 2^-2097 (R9). -/
def sampleScale : Nat := 2097
/-- y is counted in units of 2^-4194 (R9). -/
def resultScale : Nat := 4194

/-! ## Formats (Tables 1-1, 1-2) -/

/-- The real formats. -/
inductive RealFormat where
  | sr | lr
deriving DecidableEq, Repr

/-- The integer formats. -/
inductive IntFormat where
  | i16 | ob16 | i32
deriving DecidableEq, Repr

/-- A format is real or integer (Table 1-1). -/
inductive FormatKind where
  | real (f : RealFormat)
  | int (f : IntFormat)
deriving DecidableEq, Repr

def Format.split : Format → FormatKind
  | .i16 => .int .i16 | .ob16 => .int .ob16 | .i32 => .int .i32 | .sr => .real .sr | .lr => .real .lr

/-- Fraction bits, bias and exponent field period (Table 1-2). -/
def RealFormat.fractionBits : RealFormat → Nat | .sr => 22 | .lr => 51
def RealFormat.bias : RealFormat → Nat | .sr => 255 | .lr => 2047
def RealFormat.period : RealFormat → Nat | .sr => 512 | .lr => 4096
/-- The precision p (Table 1-1). -/
def RealFormat.precision (f : RealFormat) : Nat := f.fractionBits + 1
/-- The largest exponent field (Table 1-2). -/
def RealFormat.maxExponent (f : RealFormat) : Nat := f.period - 1

/-- The words of a real value of given sign, exponent field and fraction field (R190). -/
def RealFormat.words (f : RealFormat) (sign : Bool) (exponent fraction : Nat) : List Word :=
  match f with
  | .sr => [flagBit sign ++ bitsOf 9 exponent ++ bitsOf 22 fraction]
  | .lr =>
    let d : DoubleWord := flagBit sign ++ bitsOf 12 exponent ++ bitsOf 51 fraction
    [highWord d, lowWord d]

/-- Exact zero, every bit zero, and the marked null, sign 1 and every other bit zero (R6). -/
def RealFormat.zeroWords (f : RealFormat) : List Word := f.words false 0 0
def RealFormat.nullWords (f : RealFormat) : List Word := f.words true 0 0

/-- The fields of a real word (R190). -/
structure RealFields where
  sign     : Bool
  exponent : Nat
  fraction : Nat
deriving DecidableEq, Repr

def srFields (w : Word) : RealFields := ⟨w.getLsbD 31, bits w 22 9, bits w 0 22⟩
def lrFields (d : DoubleWord) : RealFields := ⟨d.getLsbD 63, (d.extractLsb' 51 12).toNat, (d.extractLsb' 0 51).toNat⟩

/-- Exponent field 0 with sign 1, whatever the fraction (R6). -/
def RealFields.isMarkedNull (x : RealFields) : Bool := x.exponent == 0 && x.sign

/-- The value in units of 2^-2097: zero for exponent field 0, else (-1)^s (1 + f/2^n) 2^(E - bias) (R4, R5, R6). -/
def RealFields.value (x : RealFields) (f : RealFormat) : Int :=
  if x.exponent = 0 then 0
  else
    let m : Int := (2 ^ f.fractionBits + x.fraction) * 2 ^ (x.exponent + sampleScale - f.bias - f.fractionBits)
    if x.sign then -m else m

/-- A gain or an offset in units of 2^-2097 (R5, R6, R9). -/
def lrValue (d : DoubleWord) : Int := (lrFields d).value .lr

/-! ## Reading an input sample (R7, R8, R40) -/

/-- The raw word or words of the sample at a position of the payload, none for an absent sample (R8, R40). -/
def rawInput (payload : List Word) (position : Nat) (f : Format) : Option (List Word) :=
  if f = .lr then
    if position + 1 < payload.length then some [payload.getD position 0, payload.getD (position + 1) 0] else none
  else if position < payload.length then some [payload.getD position 0] else none

/-- The low half of a word as 16-bit two's complement (R1), and as an unsigned number (R2). -/
def lowHalfSigned (w : Word) : Int := (w.extractLsb' 0 16).toInt
def lowHalfUnsigned (w : Word) : Int := (w.extractLsb' 0 16).toNat

/-- The raw sample that is compared with a null code (R7). -/
def rawNumber (f : IntFormat) (w : Word) : Int :=
  match f with
  | .i16 => lowHalfSigned w
  | .ob16 => lowHalfUnsigned w
  | .i32 => w.toInt

/-- The integer value a raw sample stands for (R1, R2, R3). -/
def integerValue (f : IntFormat) (w : Word) : Int :=
  match f with
  | .i16 => lowHalfSigned w
  | .ob16 => lowHalfUnsigned w - 32768
  | .i32 => w.toInt

/-- A received sample decoded: none for a marked-null input, else x in units of 2^-2097 (R7, R8). -/
def decodeSample (f : Format) (nullCode : Option Word) (raw : List Word) : Option Int :=
  match f.split with
  | .int k =>
    let w := raw.getD 0 0
    if nullCode.map BitVec.toInt = some (rawNumber k w) then none else some (integerValue k w * 2 ^ sampleScale)
  | .real .sr =>
    let x := srFields (raw.getD 0 0)
    if x.isMarkedNull then none else some (x.value .sr)
  | .real .lr =>
    let x := lrFields (doubleWord (raw.getD 0 0) (raw.getD 1 0))
    if x.isMarkedNull then none else some (x.value .lr)

/-! ## The transform (R9) -/

/-- y = x * gain + offset, exact, in units of 2^-4194. -/
def transform (x gain offset : Int) : Int := x * gain + offset * 2 ^ sampleScale

/-! ## Encoding into a real format (R11 to R14) -/

/-- The rounded result: sign, rounded significand m_r in units of 2^-(p-1), rounded exponent e_r. -/
structure RoundedReal where
  sign        : Bool
  significand : Nat
  exponent    : Int
deriving DecidableEq, Repr

/-- m * 2^(p-1) cut to a whole number by CHOP (R12) or, after adding one half, by ROUND (R13), where m = magnitude / 2^k. -/
def cutSignificand (f : RealFormat) (mode : Rounding) (magnitude k : Nat) : Nat :=
  match mode with
  | .chop => magnitude * 2 ^ f.fractionBits / 2 ^ k
  | .round => (magnitude * 2 ^ (f.fractionBits + 1) + 2 ^ k) / 2 ^ (k + 1)

/-- A nonzero y normalised and rounded; a significand that has carried out to 2 becomes 1 with the exponent raised
(R11, R12, R13). -/
def roundReal (f : RealFormat) (mode : Rounding) (y : Int) : RoundedReal :=
  let k := y.natAbs.log2
  let q := cutSignificand f mode y.natAbs k
  let e : Int := (k : Int) - resultScale
  if q = 2 ^ (f.fractionBits + 1) then ⟨decide (y < 0), 2 ^ f.fractionBits, e + 1⟩ else ⟨decide (y < 0), q, e⟩

/-- The biased exponent B = e_r + bias (R14). -/
def RoundedReal.biased (r : RoundedReal) (f : RealFormat) : Int := r.exponent + f.bias

/-- The fraction field (m_r - 1) * 2^(p-1) (R14). -/
def RoundedReal.fraction (r : RoundedReal) (f : RealFormat) : Nat := r.significand - 2 ^ f.fractionBits

/-- The true exponent e_r as a signed 16-bit number (R19). -/
def RoundedReal.trueExponent (r : RoundedReal) : BitVec 16 := BitVec.ofInt 16 r.exponent

/-- The exponent field of the wrap value: B modulo the period, in 0 to period - 1 (R18). -/
def RoundedReal.wrapExponent (r : RoundedReal) (f : RealFormat) : Nat := (r.biased f % (f.period : Int)).toNat

/-- The wrap value (R18). -/
def RoundedReal.wrapWords (r : RoundedReal) (f : RealFormat) : List Word :=
  f.words r.sign (r.wrapExponent f) (r.fraction f)

/-- The value of a result in range (R14). -/
def RoundedReal.inRangeWords (r : RoundedReal) (f : RealFormat) : List Word :=
  f.words r.sign (r.biased f).toNat (r.fraction f)

/-- The saturation value: the largest magnitude with the sign of y (R20). -/
def RoundedReal.saturationWords (r : RoundedReal) (f : RealFormat) : List Word :=
  f.words r.sign f.maxExponent (2 ^ f.fractionBits - 1)

/-! ## Encoding into an integer format (R15, R16, R20, R21) -/

/-- y truncated toward zero (R15). -/
def wholePart (y : Int) : Int := y.tdiv (2 ^ resultScale)

/-- The fraction g of split mode: y - N, or exact zero where |y| is 2^p or more (R22); in units of 2^-4194. -/
def splitFraction (f : RealFormat) (y : Int) : Int :=
  if y.natAbs < 2 ^ (f.precision + resultScale) then y - wholePart y * 2 ^ resultScale else 0

def IntFormat.least : IntFormat → Int
  | .i16 => -32768 | .ob16 => -32768 | .i32 => -2147483648

def IntFormat.greatest : IntFormat → Int
  | .i16 => 32767 | .ob16 => 32767 | .i32 => 2147483647

/-- The word of an integer value: sign-extended for I16, offset by 32768 with a zero high half for OB16, the whole word for
I32 (R1, R2, R3). -/
def IntFormat.word (f : IntFormat) (v : Int) : Word :=
  match f with
  | .i16 => (BitVec.ofInt 16 v).signExtend 32
  | .ob16 => (BitVec.ofInt 16 (v + 32768)).setWidth 32
  | .i32 => BitVec.ofInt 32 v

/-- The word of an output null code: an I16 code sign-extended, an OB16 code as its raw number, an I32 code whole (R21). -/
def IntFormat.nullWord (f : IntFormat) (code : Word) : Word :=
  match f with
  | .i16 => (code.extractLsb' 0 16).signExtend 32
  | .ob16 => (code.extractLsb' 0 16).setWidth 32
  | .i32 => code

/-- The nearest limit of a RANGE result (R20). -/
def IntFormat.nearestLimit (f : IntFormat) (n : Int) : Int := if n < f.least then f.least else f.greatest

end Sys2Proof.Machine
end

