-- ==== Sys2Proof/Machine/Flags.lean ====
section
/-! DEFINITION. The conditions of a slot and how the policies settle them (sections 2.3 to 2.5), the value of a slot of either
role (R65), and the sticky flags and report modes (section 2.6). -/

namespace Sys2Proof.Machine

/-- A condition with the facts that describe it (R25, R47): class, action (R44), flags, input words, true exponent.
`diverts` says that a DIVERT policy settled it (R43). -/
structure Condition where
  cls           : ConditionClass
  action        : Action
  absent        : Bool
  companion     : Bool
  wrappedToNull : Bool
  input         : List Word
  exponent      : Option (BitVec 16)
deriving DecidableEq, Repr

/-- A DIVERT policy settled the condition, and marks its frame as diverting (R43, R44). -/
def Condition.diverts (c : Condition) : Bool := c.action == .diverted

/-- What the conversion of one slot hands on: the stored word or words and at most one condition (R25). -/
structure Settled where
  stored    : List Word
  condition : Option Condition
deriving DecidableEq, Repr

/-! ## OVERFLOW and UNDERFLOW (R37, R38) -/

def OverflowPolicy.action : OverflowPolicy → Action
  | .zero => .zero | .saturate => .saturate | .wrap => .wrap | .divert => .diverted

def UnderflowPolicy.action : UnderflowPolicy → Action
  | .zero => .zero | .wrap => .wrap | .divert => .diverted

/-- The value an overflow policy stores (R37). -/
def overflowWords (p : OverflowPolicy) (f : RealFormat) (r : RoundedReal) : List Word :=
  match p with
  | .zero => f.zeroWords
  | .saturate => r.saturationWords f
  | .wrap => r.wrapWords f
  | .divert => r.wrapWords f

/-- The value an underflow policy stores (R38). -/
def underflowWords (p : UnderflowPolicy) (f : RealFormat) (r : RoundedReal) : List Word :=
  match p with
  | .zero => f.zeroWords
  | .wrap => r.wrapWords f
  | .divert => r.wrapWords f

/-- WRAPPED_TO_NULL: the policy stored the wrap value and its exponent field is 0 (R18, R37, R38; log 8). -/
def wrapsToNull (a : Action) (f : RealFormat) (r : RoundedReal) : Bool :=
  (a == .wrap || a == .diverted) && r.wrapExponent f == 0

/-- The real encoding of y for a descriptor, with its rounding and its overflow and underflow policies (R11 to R14, R37, R38). -/
def settleReal (d : Descriptor) (f : RealFormat) (input : List Word) (y : Int) : Settled :=
  if y = 0 then ⟨f.zeroWords, none⟩
  else
    let r := roundReal f d.rounding y
    if (f.maxExponent : Int) < r.biased f then
      ⟨overflowWords d.overflow f r, some ⟨.overflow, d.overflow.action, false, false,
        wrapsToNull d.overflow.action f r, input, some r.trueExponent⟩⟩
    else if r.biased f < 1 then
      ⟨underflowWords d.underflow f r, some ⟨.underflow, d.underflow.action, false, false,
        wrapsToNull d.underflow.action f r, input, some r.trueExponent⟩⟩
    else ⟨r.inRangeWords f, none⟩

/-! ## RANGE (R39) -/

def RangePolicy.action : RangePolicy → Action
  | .zero => .zero | .saturate => .saturate | .divert => .diverted

/-- The value a range policy stores (R39). -/
def rangeWords (p : RangePolicy) (f : IntFormat) (n : Int) : List Word :=
  match p with
  | .zero => [f.word 0]
  | .saturate => [f.word (f.nearestLimit n)]
  | .divert => [f.word (f.nearestLimit n)]

/-- The integer encoding of a whole number under a range policy; `companion` marks a companion's condition (R16, R24, R39). -/
def settleInteger (p : RangePolicy) (f : IntFormat) (companion : Bool) (input : List Word) (n : Int) : Settled :=
  if f.least ≤ n ∧ n ≤ f.greatest then ⟨[f.word n], none⟩
  else ⟨rangeWords p f n, some ⟨.range, p.action, false, companion, false, input, none⟩⟩

/-! ## NULL_INPUT (R41, R42) -/

def NullPolicy.action : NullPolicy → Action
  | .propagate => .propagate | .zero => .zero | .divert => .diverted

/-- The null value of a slot: the marked null of a real output, the output null code of an integer one (R21).  Where an
integer output has no code the null value is not defined; the word is then a free value (log 11). -/
def nullValue (channel : Fin 128) (d : Descriptor) : List Word :=
  match d.outputFormat.split with
  | .real f => f.nullWords
  | .int f =>
    match d.outputNull with
    | some code => [f.nullWord code]
    | none => [Config.undefinedWord channel]

/-- The zero value of a slot (R20). -/
def zeroValue (d : Descriptor) : List Word :=
  match d.outputFormat.split with
  | .real f => f.zeroWords
  | .int f => [f.word 0]

/-- The value that a null policy gives to the slot of a channel (R41, R42). -/
def nullSettledWords (p : NullPolicy) (channel : Fin 128) (d : Descriptor) : List Word :=
  match p with
  | .propagate => nullValue channel d
  | .zero => zeroValue d
  | .divert => nullValue channel d

/-- The NULL_INPUT condition of a PRIMARY channel; an absent sample has no input value (R40). -/
def nullCondition (p : NullPolicy) (raw : Option (List Word)) : Condition :=
  ⟨.nullInput, p.action, raw.isNone, false, false, raw.getD [], none⟩

/-! ## The slots of a frame (R65) -/

/-- The sample of a PRIMARY channel as received, and y in units of 2^-4194, none for a null input (R7, R8, R9, R40). -/
def channelResult (payload : List Word) (d : Descriptor) : Option (List Word) × Option Int :=
  match rawInput payload d.position d.inputFormat with
  | none => (none, none)
  | some raw =>
    (some raw, (decodeSample d.inputFormat d.inputNull raw).map fun x => transform x (lrValue d.gain) (lrValue d.offset))

/-- The slot of a PRIMARY channel (R28, R65): the whole encoding in mode PLAIN, the fraction in mode SPLIT.  A split channel's
output is real (R28); an active bank holds no other (R100), and for any other the word is a free value (log 11). -/
def settlePrimary (payload : List Word) (channel : Fin 128) (d : Descriptor) : Settled :=
  match channelResult payload d with
  | (raw, none) => ⟨nullSettledWords d.null channel d, some (nullCondition d.null raw)⟩
  | (raw, some y) =>
    match d.mode, d.outputFormat.split with
    | .plain, .real f => settleReal d f (raw.getD []) y
    | .plain, .int f => settleInteger d.range f false (raw.getD []) (wholePart y)
    | .split, .real f => settleReal d f (raw.getD []) (splitFraction f y)
    | .split, .int _ => ⟨[Config.undefinedWord channel], none⟩

/-- A PRIMARY descriptor of mode SPLIT that names a companion (R29, R100). -/
def claims (d : Descriptor) (companion : Fin 128) : Bool :=
  d.kind == .primary && d.mode == .split && d.companion == some companion

/-- The split channel that names a companion: the PRIMARY descriptor of mode SPLIT whose companion field holds its number
(an active bank holds exactly one, R100, R102). -/
def splitOwner (b : Bank) (channel : Fin 128) : Option (Fin 128) :=
  (List.finRange 128).find? fun k => claims (b.channel k) channel

/-- The slot of a COMPANION channel: the whole part N of its split channel under the companion's own format and range policy,
or, for a null input, the value that the split channel's null policy names, with no condition (R24, R29, R42, R65).  Where no
split channel names the companion the word is a free value (log 11). -/
def settleCompanion (b : Bank) (payload : List Word) (channel : Fin 128) (d : Descriptor) : Settled :=
  match splitOwner b channel with
  | none => ⟨[Config.undefinedWord channel], none⟩
  | some k =>
    match channelResult payload (b.channel k) with
    | (_, none) => ⟨nullSettledWords (b.channel k).null channel d, none⟩
    | (raw, some y) =>
      match d.outputFormat.split with
      | .int f => settleInteger d.range f true (raw.getD []) (wholePart y)
      | .real _ => ⟨[Config.undefinedWord channel], none⟩

/-- The value and the condition of a slot entry, from the frame's payload and the descriptors alone (R65). -/
def settleSlot (b : Bank) (payload : List Word) (e : SlotEntry) : Settled :=
  match e.role with
  | .primary => settlePrimary payload e.channel (b.channel e.channel)
  | .companion => settleCompanion b payload e.channel (b.channel e.channel)

/-! ## Sticky flags and report modes (R45, R46) -/

/-- The sticky flag of a condition. -/
def Sticky.flag (k : Sticky) : ConditionClass → Bool
  | .overflow => k.overflow | .underflow => k.underflow | .range => k.range | .nullInput => k.null

/-- The flags with the flag of a condition set (R45). -/
def Sticky.mark (k : Sticky) : ConditionClass → Sticky
  | .overflow => { k with overflow := true }
  | .underflow => { k with underflow := true }
  | .range => { k with range := true }
  | .nullInput => { k with null := true }

/-- Whether a condition forms a record: always under EVERY, under FIRST when its flag was clear (R46). -/
def formsRecord (m : ReportMode) (k : Sticky) (c : ConditionClass) : Bool :=
  match m with
  | .every => true
  | .first => !k.flag c

/-- The four flags of a channel as READ_STICKY returns them: bit 3 OVERFLOW, 2 UNDERFLOW, 1 RANGE, 0 NULL (R193). -/
def Sticky.nibble (k : Sticky) : BitVec 4 := flagBit k.overflow ++ flagBit k.underflow ++ flagBit k.range ++ flagBit k.null

end Sys2Proof.Machine
end

