-- ==== Sys2Proof/Machine/Frames.lean ====
section
/-! DEFINITION. Frames as words: kinds and headers (Tables 11-1 to 11-3), the CRC (R147), the checks of a received frame
(R148), and the words of every frame and record that the part produces (R188, R189, R194). -/

namespace Sys2Proof.Machine

/-! ## Kinds (Table 11-1, Table 8-2) -/

/-- The frame kinds (Table 11-1). -/
inductive FrameKind where
  | data | request | response | notice | enumerate | report
deriving DecidableEq, Repr

/-- The kind code in bits 31-28 of the first header word; codes 0 and 7-15 name no kind. -/
def kindOfWord (w : Word) : Option FrameKind :=
  match bits w 28 4 with
  | 1 => some .data | 2 => some .request | 3 => some .response | 4 => some .notice | 5 => some .enumerate
  | 6 => some .report | _ => none

def FrameKind.code : FrameKind → BitVec 4
  | .data => 1 | .request => 2 | .response => 3 | .notice => 4 | .enumerate => 5 | .report => 6

/-- The header words of a kind (Table 11-1). -/
def FrameKind.headerWords : FrameKind → Nat
  | .data => 4 | .request => 2 | .response => 2 | .notice => 1 | .enumerate => 1 | .report => 1

/-- The maximum payload of a kind as received, on either lane (Table 8-2). -/
def FrameKind.maxPayload : FrameKind → Nat
  | .data => 64 | .request => 32 | .response => 96 | .notice => 3 | .enumerate => 1 | .report => 3

/-- Whether the payload of a kind has a fixed length (Table 11-1). -/
def FrameKind.fixedLength : FrameKind → Bool
  | .notice => true | .enumerate => true | .report => true
  | .data => false | .request => false | .response => false

/-- The payload word count field, bits 7-0 of the first header word. -/
def payloadCount (w : Word) : Nat := bits w 0 8

/-- The conditioned flag, bit 27 of the first word of a DATA header (Table 11-2). -/
def conditionedFlag (w : Word) : Bool := w.getLsbD 27

/-! ## CRC (R147) -/

/-- One bit fed into the check register: combine with the top bit, shift, and combine with hex 1021 where it was 1. -/
def crcBit (r : BitVec 16) (b : Bool) : BitVec 16 :=
  if xor (r.getLsbD 15) b then (r <<< 1) ^^^ 0x1021#16 else r <<< 1

/-- One word fed from bit 31 to bit 0. -/
def crcWord (r : BitVec 16) (w : Word) : BitVec 16 :=
  (List.range 32).foldl (fun r i => crcBit r (w.getLsbD (31 - i))) r

/-- The check value of the header and payload words: preset hex FFFF, no inversion. -/
def crc16 (ws : List Word) : BitVec 16 := ws.foldl crcWord 0xFFFF#16

/-- The CRC word: the check value in the low half, zero in the high half. -/
def crcOf (ws : List Word) : Word := 0#16 ++ crc16 ws

/-- The words that a transmit lane sends between START and END: header, payload and CRC word (R146, R147). -/
def withCrc (ws : List Word) : List Word := ws ++ [crcOf ws]

/-! ## The assembly buffer and the checks of R148 -/

/-- A buffer just opened by START (R146). -/
def Assembly.fresh : Assembly := ⟨[], false, false⟩

/-- How many words a frame may have between START and END: header, maximum payload and CRC word of its kind; for a code that
names no kind the longest header, 96 payload words and the CRC word (R148, first check). -/
def wordLimit (ws : List Word) : Nat :=
  match ws with
  | [] => 4 + 96 + 1
  | w :: _ =>
    match kindOfWord w with
    | some k => k.headerWords + k.maxPayload + 1
    | none => 4 + 96 + 1

/-- A data word gathered into the buffer, which stops storing where a further word makes the frame too long (R148). -/
def Assembly.gather (b : Assembly) (w : Word) : Assembly :=
  if b.words.length < wordLimit b.words then { b with words := b.words ++ [w] } else { b with overrun := true }

/-- The counters that R148 charges a dropped frame to. -/
inductive FrameFailure where
  | tooLong | malformed | crcError
deriving DecidableEq, Repr

/-- The verdict on a closed frame. -/
inductive FrameVerdict where
  | pass (kind : FrameKind) (f : Frame)
  | fail (why : FrameFailure)
deriving DecidableEq, Repr

/-- The kind that a frame's header shows, none for a code that names no kind and for a frame without a word. -/
def Assembly.shownKind (b : Assembly) : Option FrameKind :=
  match b.words with
  | [] => none
  | w :: _ => kindOfWord w

/-- The header words counted for the size check: those of the kind, or 1 (R148, second check). -/
def Assembly.headerWords (b : Assembly) : Nat :=
  match b.shownKind with
  | some k => k.headerWords
  | none => 1

/-- First check of R148. -/
def Assembly.isTooLong (b : Assembly) : Bool :=
  b.overrun ||
  match b.shownKind with
  | some k => decide (k.maxPayload < payloadCount (b.words.headD 0))
  | none => false

/-- Second check of R148. -/
def Assembly.isShort (b : Assembly) : Bool := decide (b.words.length < b.headerWords + 1)

/-- Third check of R148: the CRC word must be the check value with a zero high half, and no invalid symbol seen. -/
def Assembly.isCorrupt (b : Assembly) : Bool :=
  b.corrupt || b.words.getLastD 0 != crcOf b.words.dropLast

/-- Fourth check of R148. -/
def Assembly.isBadContent (b : Assembly) : Bool :=
  match b.shownKind with
  | none => true
  | some k =>
    let w := b.words.headD 0
    decide (b.words.length - k.headerWords - 1 ≠ payloadCount w) ||
    (k == .data && !conditionedFlag w && payloadCount w == 0) ||
    (k.fixedLength && payloadCount w != k.maxPayload)

/-- The checks of R148 in their order; a frame that passes is kept without its CRC word. -/
def Assembly.verdict (b : Assembly) : FrameVerdict :=
  if b.isTooLong then .fail .tooLong
  else if b.isShort then .fail .malformed
  else if b.isCorrupt then .fail .crcError
  else if b.isBadContent then .fail .malformed
  else
    match b.shownKind with
    | some k => .pass k ⟨b.words.dropLast⟩
    | none => .fail .malformed

/-! ## Fields of a received frame (Tables 11-2, 11-3) -/

def Frame.word (f : Frame) (i : Nat) : Word := f.words.getD i 0

/-- Conditioned flag, stream id, input sequence and timestamp of a DATA frame (Table 11-2). -/
def Frame.conditioned (f : Frame) : Bool := conditionedFlag (f.word 0)
def Frame.streamId (f : Frame) : BitVec 8 := (f.word 0).extractLsb' 8 8
def Frame.inputSeq (f : Frame) : Seq := (f.word 1).extractLsb' 16 16
def Frame.timestamp (f : Frame) : Word := f.word 2

/-- The payload words of a DATA frame, which follow its four header words. -/
def Frame.payload (f : Frame) : List Word := f.words.drop 4

/-- The request of a REQUEST frame (Table 11-3); the bit positions that carry zero are disregarded (R189). -/
def Frame.request (f : Frame) : Request where
  dest := (f.word 0).extractLsb' 22 6
  tag := (f.word 0).extractLsb' 8 8
  code := (f.word 1).extractLsb' 0 8
  operands := f.words.drop 2

/-- The address of an ENUMERATE frame, bits 5-0 of its payload word (R188). -/
def Frame.enumerateAddress (f : Frame) : Address := (f.word 1).extractLsb' 0 6

/-! ## Frames that the part produces -/

/-- The words of a conditioned DATA frame (Table 11-2; unnamed positions zero, R189). -/
def CondFrame.words (f : CondFrame) : List Word :=
  [ FrameKind.data.code ++ 1#1 ++ flagBit f.exception ++ flagBit f.gap ++ flagBit f.released ++ flagBit f.timedOut ++
      flagBit f.refused ++ f.node ++ f.outputId ++ bitsOf 8 f.payload.length,
    f.inputSeq ++ f.outputSeq, f.timestamp, f.generation ++ 0#16 ] ++ f.payload

/-- The words of a frame of the output queue; a passed frame keeps every bit (R61, R62, R189). -/
def OutFrame.words : OutFrame → List Word
  | .conditioned f => f.words
  | .passed f => f.words

/-- The words of a RESPONSE (Table 11-3). -/
def Response.words (r : Response) : List Word :=
  [ FrameKind.response.code ++ r.source ++ 0#6 ++ r.tag ++ bitsOf 8 r.data.length,
    0#16 ++ r.code ++ r.status.code ] ++ r.data

/-- The identification: the REPORT payload and the data of the IDENTIFY answer (R166, R188). -/
def identification (node : Address) : List Word :=
  [ Config.vendorCode ++ Config.partCode,
    Config.revisionCode ++ 0#2 ++ node ++ 128#16,
    8#4 ++ 8#4 ++ 8#4 ++ 4#4 ++ 0#8 ++ 32#8 ]

/-- The one header word of NOTICE and REPORT: the source address in bits 27-22 (R188). -/
def shortHeader (k : FrameKind) (source : Address) (n : Nat) : Word := k.code ++ source ++ 0#14 ++ bitsOf 8 n

/-- The words of a frame of the response queue. -/
def AgentFrame.words : AgentFrame → List Word
  | .response r => r.words
  | .report source => shortHeader .report source 3 :: identification source

/-- The ENUMERATE frame that the agent sends upstream: zero in bits 27-22, the address in bits 5-0 of its payload (R188). -/
def enumerateFrame (a : Address) : Frame := ⟨[shortHeader .enumerate 0 1, 0#26 ++ a]⟩

/-- The words of a NOTICE whose reason was given at its placing and whose other fields are taken now (R139, R188). -/
def noticeWords (reason : NoticeReason) (source : Address) (x : ExceptionUnit) (hold : Hold) : List Word :=
  [ shortHeader .notice source 3,
    reason.code ++ hold.code ++ flagBit (!x.queue.isEmpty) ++ 0#7 ++ bitsOf 8 x.queue.length,
    (match x.queue.head?, x.queue.getLast? with
      | some oldest, some newest => oldest.seq ++ newest.seq
      | _, _ => 0#32),
    0#16 ++ x.lost.extractLsb' 0 16 ]

/-! ## The exception record image (Table 11-6, R194) -/

/-- The optional words of a record: input value, stored value, then the exponent or the counts (R194). -/
def ExceptionRecord.optionalWords (r : ExceptionRecord) : List Word :=
  r.inputValue ++ r.storedValue ++
  (match r.exponent with | some e => [e.signExtend 32] | none => []) ++
  (match r.counts with | some (declared, received) => [declared ++ received] | none => [])

/-- The words of a record: three fixed words and its optional words (Table 11-6; the bits of word 2 that it leaves unnamed, 19 and
15-0, zero, log 25). -/
def ExceptionRecord.words (r : ExceptionRecord) : List Word :=
  [ r.seq ++ r.cls.code ++ r.action.code ++ flagBit r.lossBefore ++ flagBit r.absent ++ flagBit r.companion ++
      flagBit r.wrappedToNull ++ bitsOf 4 (3 + r.optionalWords.length),
    r.generation ++ r.inputSeq,
    flagBit r.channel.isSome ++ (match r.channel with | some c => bitsOf 7 c | none => 0#7) ++
      bitsOf 2 r.inputValue.length ++ bitsOf 2 r.storedValue.length ++ 0#1 ++ bitsOf 3 r.stream ++ 0#16 ] ++
  r.optionalWords

end Sys2Proof.Machine
end

