-- ==== Sys2Proof/Machine/Layout.lean ====
section
/-! DEFINITION. The layout compiler: members, class order, placement (chapter 4) and the validation of a bank at a commit
(section 5.4). -/

namespace Sys2Proof.Machine

/-! ## Members, order and placement (R78 to R81) -/

/-- A PRIMARY or COMPANION descriptor is a member of the stream its stream field names (R78). -/
def isMember (d : Descriptor) (stream : Fin 8) : Bool := d.kind != .disabled && d.stream == stream

/-- The width of a member: 2 words for an LR output (R78). -/
def memberWidth (d : Descriptor) : Nat := if d.outputFormat = .lr then 2 else 1

/-- The role of a member is the kind of its descriptor (R85). -/
def memberRole (d : Descriptor) : SlotRole := if d.kind = .companion then .companion else .primary

/-- The classes in ascending rank, equal ranks in ascending class number (R79). -/
def classOrder (b : Bank) : List (Fin 8) :=
  (List.finRange 8).flatMap fun r => (List.finRange 8).filter fun c => (b.classRecord c).rank == r

/-- The members of a stream in one class, in ascending channel number (R80). -/
def classMembers (b : Bank) (stream c : Fin 8) : List (Fin 128) :=
  (List.finRange 128).filter fun ch => isMember (b.channel ch) stream && (b.channel ch).outputClass == c

/-- The smallest whole multiple of the alignment that is not below the cursor (R81). -/
def raiseCursor (cursor align : Nat) : Nat := (cursor + align - 1) / align * align

/-- Each member placed at the cursor, which advances by its width (R81, step 3). -/
def placeMembers (b : Bank) (cursor : Nat) : List (Fin 128) → List SlotEntry × Nat
  | [] => ([], cursor)
  | ch :: rest =>
    let d := b.channel ch
    let r := placeMembers b (cursor + memberWidth d) rest
    (⟨cursor, memberWidth d, ch, memberRole d⟩ :: r.1, r.2)

/-- The classes placed in their order, the cursor raised at the first member of each class that has members (R81, step 2). -/
def placeClasses (b : Bank) (stream : Fin 8) (cursor : Nat) : List (Fin 8) → List SlotEntry × Nat
  | [] => ([], cursor)
  | c :: rest =>
    if classMembers b stream c = [] then placeClasses b stream cursor rest
    else
      let here := placeMembers b (raiseCursor cursor (b.classRecord c).alignment.words) (classMembers b stream c)
      let later := placeClasses b stream here.2 rest
      (here.1 ++ later.1, later.2)

/-- The compiled layout of a stream (R81, R85). -/
def compileStream (b : Bank) (stream : Fin 8) : Layout :=
  let r := placeClasses b stream 0 (classOrder b)
  ⟨r.1, r.2⟩

/-- One layout for each enabled stream record, none for a disabled one (R84, R86, R103). -/
def compileLayouts (b : Bank) : LayoutSet :=
  Vector.ofFn fun i => if (b.stream i).enabled then some (compileStream b i) else none

/-! ## Validation (R97 to R103) -/

/-- The reasons of COMMIT_FAILED (R104). -/
inductive CommitReason where
  | duplicateStream | badStreamRef | positionRange | positionOverlap | badSplit | companionMissing | companionStream
  | companionShared | nullCodeRequired | companionOrphan | classFull | layoutFull
deriving DecidableEq, Repr

/-- The codes of Table 11-7. -/
def CommitReason.code : CommitReason → BitVec 8
  | .duplicateStream => 1 | .badStreamRef => 2 | .positionRange => 3 | .positionOverlap => 4 | .badSplit => 5
  | .companionMissing => 6 | .companionStream => 7 | .companionShared => 8 | .nullCodeRequired => 9
  | .companionOrphan => 10 | .classFull => 11 | .layoutFull => 12

/-- The fault that a failed commit reports (R104). -/
structure CommitFault where
  reason : CommitReason
  index  : Nat
  stream : Option (Fin 8)
deriving DecidableEq, Repr

/-- First phase, one record: an enabled record of lower index has the same input stream id (R98). -/
def streamFault (b : Bank) (i : Fin 8) : Option CommitFault :=
  if (b.stream i).enabled && (List.finRange 8).any fun j =>
      decide (j < i) && (b.stream j).enabled && (b.stream j).inputId == (b.stream i).inputId
  then some ⟨.duplicateStream, i, none⟩ else none

/-- The input positions that a PRIMARY descriptor reads: two for an LR input (R99). -/
def inputPositions (d : Descriptor) : List Nat :=
  if d.inputFormat = .lr then [d.position, d.position + 1] else [d.position]

/-- Another PRIMARY descriptor of lower number in the same stream reads one of the positions (R99). -/
def positionTaken (b : Bank) (ch : Fin 128) : Bool :=
  (List.finRange 128).any fun k =>
    decide (k < ch) && (b.channel k).kind == .primary && (b.channel k).stream == (b.channel ch).stream &&
    (inputPositions (b.channel k)).any fun p => (inputPositions (b.channel ch)).contains p

/-- The split checks of a PRIMARY descriptor of mode SPLIT (R100). -/
def splitFault (b : Bank) (ch : Fin 128) : Option CommitFault :=
  let d := b.channel ch
  let fault (r : CommitReason) : Option CommitFault := some ⟨r, ch, some d.stream⟩
  if d.outputFormat ≠ .sr ∧ d.outputFormat ≠ .lr then fault .badSplit
  else
    match d.companion with
    | none => fault .companionMissing
    | some k =>
      if (b.channel k).kind ≠ .companion then fault .companionMissing
      else if (b.channel k).stream ≠ d.stream then fault .companionStream
      else if (List.finRange 128).any fun j => decide (j < ch) && claims (b.channel j) k then fault .companionShared
      else none

/-- Whether the null value of a PRIMARY descriptor lacks the null code it needs (R101). -/
def nullCodeMissing (b : Bank) (d : Descriptor) : Bool :=
  d.null != .zero &&
  match d.mode with
  | .plain => (d.outputFormat != .sr && d.outputFormat != .lr) && d.outputNull.isNone
  | .split =>
    match d.companion with
    | some k => (b.channel k).outputNull.isNone
    | none => true

/-- Second phase, one descriptor: stream and position checks, split checks, null code check (R99, R100, R101). -/
def channelFault (b : Bank) (ch : Fin 128) : Option CommitFault :=
  let d := b.channel ch
  let fault (r : CommitReason) : Option CommitFault := some ⟨r, ch, some d.stream⟩
  match d.kind with
  | .disabled => none
  | .companion => if (b.stream d.stream).enabled then none else fault .badStreamRef
  | .primary =>
    if !(b.stream d.stream).enabled then fault .badStreamRef
    else if (b.stream d.stream).declared < d.position + (inputPositions d).length then fault .positionRange
    else if positionTaken b ch then fault .positionOverlap
    else
      match (if d.mode = .split then splitFault b ch else none) with
      | some f => some f
      | none => if nullCodeMissing b d then fault .nullCodeRequired else none

/-- Third phase, one descriptor: a companion that no split channel names (R102). -/
def orphanFault (b : Bank) (ch : Fin 128) : Option CommitFault :=
  if (b.channel ch).kind = .companion ∧ (List.finRange 128).all fun j => !claims (b.channel j) ch then
    some ⟨.companionOrphan, ch, some (b.channel ch).stream⟩
  else none

/-- Fourth phase, one stream: the class check in class order, then the length check (R82, R83, R103). -/
def layoutFault (b : Bank) (i : Fin 8) : Option CommitFault :=
  if (b.stream i).enabled then
    match (classOrder b).find? fun c => decide ((b.classRecord c).memberLimit < (classMembers b i c).length) with
    | some c => some ⟨.classFull, c, some i⟩
    | none => if Config.maxLayout < (compileStream b i).length then some ⟨.layoutFull, i, some i⟩ else none
  else none

/-- The first fault of a bank, in the four phases of R97, or none. -/
def validate (b : Bank) : Option CommitFault :=
  match (List.finRange 8).findSome? (streamFault b) with
  | some f => some f
  | none =>
    match (List.finRange 128).findSome? (channelFault b) with
    | some f => some f
    | none =>
      match (List.finRange 128).findSome? (orphanFault b) with
      | some f => some f
      | none => (List.finRange 8).findSome? (layoutFault b)

end Sys2Proof.Machine
end

