-- ==== Sys2Proof/Machine/Ops.lean ====
section
/-! DEFINITION. The named operations over the state that the events share: lanes and their counters, credits and grants, the
queues, the exception unit, and the agent's answers. -/

namespace Sys2Proof.Machine

/-! ## Receive lanes -/

/-- The receive lane of a side. -/
def State.rx (s : State) : Side → RxLane
  | .a => s.aRx
  | .c => s.cRx

/-- The receive lane of a side replaced. -/
def State.setRx (s : State) (side : Side) (r : RxLane) : State :=
  match side with
  | .a => { s with aRx := r }
  | .c => { s with cRx := r }

/-- The six counters of a receive lane changed (Table 8-3). -/
def State.countRx (s : State) (side : Side) (f : RxCounters → RxCounters) : State :=
  match side with
  | .a => { s with laneCounters := { s.laneCounters with a := f s.laneCounters.a } }
  | .c => { s with laneCounters := { s.laneCounters with c := f s.laneCounters.c } }

def RxCounters.countLaneDown (k : RxCounters) : RxCounters := { k with laneDowns := satInc k.laneDowns }
def RxCounters.countTruncated (k : RxCounters) : RxCounters := { k with truncated := satInc k.truncated }
def RxCounters.countMalformed (k : RxCounters) : RxCounters := { k with malformed := satInc k.malformed }
def RxCounters.countWrongDirection (k : RxCounters) : RxCounters := { k with wrongDirection := satInc k.wrongDirection }

/-- The counter of the first check that a frame failed (R148, Table 8-3). -/
def RxCounters.countFailure (k : RxCounters) : FrameFailure → RxCounters
  | .tooLong => { k with tooLong := satInc k.tooLong }
  | .malformed => k.countMalformed
  | .crcError => { k with crcErrors := satInc k.crcErrors }

/-- A frame being gathered is closed as malformed: dropped and counted once (R146); between frames nothing. -/
def State.closeMalformed (s : State) (side : Side) : State :=
  match (s.rx side).assembly with
  | none => s
  | some _ => (s.setRx side { s.rx side with assembly := none }).countRx side RxCounters.countMalformed

/-- A valid symbol other than IDLE, on a lane in each state: disregarded while DOWN, the IDLE count set to 0 in SYNCING, and in
UP the invalid count set to 0 and the symbol acted on (R144, R145). -/
def State.onValidSymbol (s : State) (side : Side) (act : State → State) : State :=
  match (s.rx side).state with
  | .down => s
  | .syncing => s.setRx side { s.rx side with idleCount := 0 }
  | .up => act (s.setRx side { s.rx side with invalidCount := 0 })

/-- The credits of a side when its receive lane becomes DOWN: on the A side the outstanding count becomes 0 and the pending
grant list is emptied (R149, R158, R159), on the C side both C-transmit counters become 0 (R149, R155). -/
def State.clearCredits (s : State) (side : Side) : State :=
  match side with
  | .a => { s with outstanding := 0, grants := [] }
  | .c => { s with dataCredits := 0, controlCredits := 0 }

/-- A frame being gathered when its lane becomes DOWN is dropped and counted as truncated (R149). -/
def State.dropPartial (s : State) (side : Side) : State :=
  match (s.rx side).assembly with
  | none => s
  | some _ => (s.setRx side { s.rx side with assembly := none }).countRx side RxCounters.countTruncated

/-- An UP lane becomes DOWN: counted as a lane down, its partial frame dropped, the credits of its side cleared (R144, R149);
it keeps its IDLE and invalid counts (DEDUCED, log 17). -/
def State.laneDown (s : State) (side : Side) : State :=
  let s1 := (s.dropPartial side).countRx side RxCounters.countLaneDown
  (s1.setRx side { s1.rx side with state := .down }).clearCredits side

/-! ## Occupancies and room -/

/-- The free entries of the ingress buffer (R151). -/
def State.ingressFree (s : State) : Nat := Config.ingressEntries - s.ingress.length
/-- The free entries of the transit FIFO (R152). -/
def State.transitFree (s : State) : Nat := Config.transitEntries - s.transit.length

/-- The engine's reservation in the output queue: one exactly while it is CONVERTING (R57, R58; log 14). -/
def State.outReserved (s : State) : Nat :=
  match s.engine with
  | .idle => 0
  | .converting _ => 1

/-- Whether an output queue entry is free: neither occupied nor reserved (R57). -/
def State.outFree (s : State) : Bool := decide (s.outQueue.length + s.outReserved < Config.outputEntries)

/-- A frame enters an output queue entry and takes its place at the tail (R57). -/
def State.enterOutput (s : State) (f : OutFrame) : State := { s with outQueue := s.outQueue ++ [f] }

/-- A frame offered to the forward FIFO: it enters at the tail, or is dropped and counted when the FIFO is full (R153, R154). -/
def State.offerForward (s : State) (f : Frame) : State :=
  if s.forward.length < Config.forwardEntries then { s with forward := s.forward ++ [f] }
  else { s with laneCounters := { s.laneCounters with forwardOverflow := satInc s.laneCounters.forwardOverflow } }

/-- A request offered to the request queue: it enters at the tail, or is dropped and counted when the queue is full (R153, R167). -/
def State.offerRequest (s : State) (rq : Request) : State :=
  if s.requests.length < Config.requestEntries then { s with requests := s.requests ++ [rq] }
  else { s with requestDrops := satInc s.requestDrops }

/-! ## Upstream grants (R158 to R161) -/

/-- How many symbols of a kind wait in the pending grant list. -/
def State.pendingGrants (s : State) (k : CreditSymbol) : Nat := (s.grants.filter (· == k)).length

/-- A CREDIT_DATA grant is decided while A-receive is UP and fewer than 8 wait: appended, and the outstanding count raised
(R158, R159; for the grant of R161, log 9). -/
def State.grantData (s : State) : State :=
  if s.aRx.state = .up ∧ s.pendingGrants .data < Config.maxPendingData then
    { s with grants := s.grants ++ [.data], outstanding := s.outstanding + 1 }
  else s

/-- A CREDIT_CONTROL grant is decided while A-receive is UP and fewer than 4 wait (R159). -/
def State.grantControl (s : State) : State :=
  if s.aRx.state = .up ∧ s.pendingGrants .control < Config.maxPendingControl then
    { s with grants := s.grants ++ [.control] }
  else s

/-- The credit restart: the list emptied, then a CREDIT_RESET, one CREDIT_DATA for each free ingress entry and one
CREDIT_CONTROL for each free transit entry; the outstanding count is the number of free ingress entries (R160). -/
def State.creditRestart (s : State) : State :=
  { s with
    grants := .reset :: (List.replicate s.ingressFree .data ++ List.replicate s.transitFree .control)
    outstanding := s.ingressFree }

/-- The engine frees the ingress entry at the head, which grants one data credit (R151, R159). -/
def State.freeIngress (s : State) : State := { s with ingress := s.ingress.tail }.grantData

/-! ## Exception unit (R127, R128, R134, R135, R138) -/

/-- Sending a notice places it in the notice slot, in place of an unsent one (R138). -/
def ExceptionUnit.placeNotice (x : ExceptionUnit) (r : NoticeReason) : ExceptionUnit := { x with slot := some r }

/-- A notice is placed and the state becomes ANNOUNCED: coalescing stopped, count 0, reminder timer at 100 ms (R135, R136). -/
def ExceptionUnit.announce (x : ExceptionUnit) (r : NoticeReason) : ExceptionUnit :=
  { x.placeNotice r with
    notice := .announced, coalescing := none, reminderCount := 0, reminder := some Config.reminderSpacing }

/-- The notice state reacts to a store: QUIET and ANNOUNCED become GATHERING and the coalescing timer starts, in ANNOUNCED the
reminder timer is stopped; GATHERING stays (R134). -/
def ExceptionUnit.gather (x : ExceptionUnit) (interval : Nat) : ExceptionUnit :=
  match x.notice with
  | .gathering => x
  | .quiet => { x with notice := .gathering, coalescing := some interval }
  | .announced => { x with notice := .gathering, coalescing := some interval, reminder := none }

/-- The threshold test of a store (R135). -/
def ExceptionUnit.testThreshold (x : ExceptionUnit) (threshold : Nat) : ExceptionUnit :=
  if x.queue.length = threshold then x.announce .threshold else x

/-- A record stored at the tail with the next sequence number, and LOSS_BEFORE when loss is pending (R127). -/
def ExceptionUnit.append (x : ExceptionUnit) (r : ExceptionRecord) : ExceptionUnit :=
  { x with
    queue := x.queue ++ [{ r with seq := x.nextSeq, lossBefore := x.lossPending }]
    nextSeq := x.nextSeq + 1
    lossPending := false }

/-- A record handed to the exception unit: stored, with the reaction of the notice state, or lost to a full queue
(R127, R128, R134, R135). -/
def ExceptionUnit.take (x : ExceptionUnit) (p : Params) (r : ExceptionRecord) : ExceptionUnit :=
  if x.queue.length < Config.exceptionEntries then
    ((x.append r).gather p.coalesceInterval).testThreshold p.noticeThreshold
  else { x with lost := satInc x.lost, lossPending := true }

/-- A record handed to the exception unit of the part. -/
def State.handRecord (s : State) (r : ExceptionRecord) : State := { s with exc := s.exc.take s.params r }

/-- The fields that the engine adds to every record of a frame: generation, stream record index, input sequence (R67).  The
sequence number and LOSS_BEFORE are given at storage (R127). -/
def frameRecord (cls : RecordClass) (generation : Seq) (stream : Fin 8) (inputSeq : Seq) : ExceptionRecord where
  seq := 0
  cls := cls
  action := .none
  lossBefore := false
  absent := false
  companion := false
  wrappedToNull := false
  generation := generation
  stream := stream
  inputSeq := inputSeq
  channel := none
  inputValue := []
  storedValue := []
  exponent := none
  counts := none

/-- The LENGTH record: declared and received word counts (R64). -/
def lengthRecord (generation : Seq) (stream : Fin 8) (inputSeq : Seq) (declared received : Nat) : ExceptionRecord :=
  { frameRecord .length generation stream inputSeq with counts := some (bitsOf 16 declared, bitsOf 16 received) }

/-- A channel-level record (R47). -/
def channelRecord (generation : Seq) (stream : Fin 8) (inputSeq : Seq) (owner : Fin 128) (k : Condition)
    (stored : List Word) : ExceptionRecord :=
  { frameRecord (.channel k.cls) generation stream inputSeq with
    action := k.action, absent := k.absent, companion := k.companion, wrappedToNull := k.wrappedToNull
    channel := some owner, inputValue := k.input, storedValue := stored, exponent := k.exponent }

/-! ## Answers of the agent (R164, R169 to R172) -/

/-- The status and data of an answer. -/
structure Reply where
  status : Status
  data   : List Word
deriving DecidableEq, Repr

/-- A frame produced enters the response queue, or the answer list when the queue is full (R170).  While the answer list holds
a frame a later one joins it, so that frames leave in the order of production (R170; log 13). -/
def State.place (s : State) (f : AgentFrame) : State :=
  if s.answers.isEmpty && decide (s.responses.length < Config.responseEntries) then { s with responses := s.responses ++ [f] }
  else { s with answers := s.answers ++ [f] }

/-- Whether a frame of the agent is a REPORT. -/
def AgentFrame.isReport : AgentFrame → Bool
  | .report _ => true
  | .response _ => false

/-- A REPORT produced takes the place of an earlier REPORT that waits in the answer list, and is else placed like any other
frame (R164, R165). -/
def State.placeReport (s : State) : State :=
  if s.answers.any AgentFrame.isReport then
    { s with answers := s.answers.map fun f => if f.isReport then .report s.nodeAddress else f }
  else s.place (.report s.nodeAddress)

/-- The response to a request, with the node address as it stands (R169). -/
def State.respond (s : State) (rq : Request) (r : Reply) : Response := ⟨s.nodeAddress, rq.tag, rq.code, r.status, r.data⟩

/-- Whether a response enters the tag cache: a BUSY or IN_PROGRESS response does not (R172). -/
def Status.cached : Status → Bool
  | .busy => false
  | .inProgress => false
  | _ => true

/-- An entry added to the tag cache: an entry of the same tag is removed, then the oldest of four, and the new one is the
newest (R172). -/
def cacheInsert (cache : List CacheEntry) (e : CacheEntry) : List CacheEntry :=
  let kept := cache.filter fun k => k.request.tag != e.request.tag
  (if kept.length < Config.cacheEntries then kept else kept.tail) ++ [e]

/-- The answer to a request is produced: placed by R170 and entered in the tag cache by R172.  `crossed` says whether an ENUMERATE
was taken while the request was deferred as a COMMIT (R110). -/
def State.answerAs (s : State) (crossed : Bool) (rq : Request) (r : Reply) : State :=
  let s1 := s.place (.response (s.respond rq r))
  if r.status.cached then { s1 with cache := cacheInsert s1.cache ⟨rq, s.respond rq r, crossed⟩ } else s1

/-- The answer to a request that no ENUMERATE crossed. -/
def State.answer (s : State) (rq : Request) (r : Reply) : State := s.answerAs false rq r

/-- The clearing of the tag cache by an ENUMERATE that crossed a commit reaches the answer that the COMMIT entered at the commit's
end, so that the COMMIT repeated with the same tag is executed afresh (R110; DESIGN CHOICE, log 24). -/
def State.clearCrossed (s : State) : State := { s with cache := s.cache.filter fun e => !e.crossed }

/-- The deferred COMMIT ends with an answer and leaves the deferred requests; the answer enters the tag cache (R171, R172), in an
entry that notes whether an ENUMERATE was taken during the commit, for the clearing of R110 (log 24). -/
def State.endCommit (s : State) (r : Reply) : State :=
  match s.deferredCommit with
  | some rq => { s with deferredCommit := none, commitEnumerated := false }.answerAs s.commitEnumerated rq r
  | none => s

/-- The deferred RELEASE_HOLD ends with an answer and leaves the deferred requests (R171); the answer enters the tag cache (R172) and
is replayed whether or not an ENUMERATE was taken meanwhile, since R110 speaks of a COMMIT alone (log 24). -/
def State.endRelease (s : State) (r : Reply) : State :=
  match s.deferredRelease with
  | some rq => { s with deferredRelease := none }.answer rq r
  | none => s

/-- The data of an OK answer to RELEASE_HOLD: output stream id, output sequence and generation of the frame (R118, R193; the place
of the generation, log 10; the unnamed bits zero, log 25). -/
def releaseData (f : CondFrame) : List Word := [f.outputId ++ 0#8 ++ f.outputSeq, 0#16 ++ f.generation]

end Sys2Proof.Machine
end

