-- ==== Sys2Proof/Machine/Resets.lean ====
section
/-! DEFINITION. The effects of the three RESET scopes and of the device reset (sections 9.7, 7.6, 6.5, 5.7). -/

namespace Sys2Proof.Machine

/-- A commit in progress is abandoned: pending layouts discarded, phase IDLE, the COMMIT answered ABORTED (R109). -/
def abandonCommit (s : State) : State :=
  match s.phase with
  | .idle => s
  | .compiling | .swapPending => { s with phase := .idle, pendingLayouts := none }.endCommit ⟨.aborted, []⟩

/-- A held or releasing frame is dropped and counted, the timer stopped, a pending RELEASE_HOLD answered ABORTED (R122). -/
def dropHold (s : State) : State :=
  match s.hold with
  | .empty => s
  | .held _ _ | .releasing _ _ =>
    { s with
      hold := .empty
      holdCounters := { s.holdCounters with discarded := satInc s.holdCounters.discarded } }.endRelease ⟨.aborted, []⟩

/-- The path of DATA frames is emptied: conversion aborted, ingress buffer and output queue emptied with the reservation, the
engine IDLE (R57, R72, R151, R178); the credit restart decided while A-receive is UP (R160). -/
def emptyDataPath (s : State) : State :=
  let s1 := { s with engine := .idle, ingress := [], outQueue := [] }
  if s1.aRx.state = .up then s1.creditRestart else s1

/-- The effects of RESET PIPELINE: the answers to the abandoned requests are produced first, the COMMIT's before the
RELEASE_HOLD's (R177, R178). -/
def pipelineReset (s : State) : State := emptyDataPath (dropHold (abandonCommit s))

/-- The effects of RESET EXCEPTIONS: the exception unit as Figure 7-1, every sticky flag and every length sticky flag clear
(R142, R179). -/
def exceptionReset (s : State) : State :=
  { s with
    exc := .reset
    sticky := Vector.replicate 128 .clear
    runtime := s.runtime.map fun r => { r with lengthSticky := false } }

/-- The effects of RESET ALL: those of both others, then the tables, layouts, generation, runtime state, parameters and every
counter (R180). -/
def fullReset (s : State) : State :=
  { exceptionReset (pipelineReset s) with
    active := .reset
    shadow := .reset
    layouts := .none
    generation := 0
    runtime := Vector.replicate 8 .reset
    params := .reset
    laneCounters := .zero
    engineCounters := .zero
    holdCounters := .zero
    requestDrops := 0
    replays := 0 }

/-- RESET_N or power-on: every block in its device reset state and no request answered (R180).  The model's queue of events is
no block of the part and stays (log 16). -/
def deviceReset (s : State) : State := { State.reset with pending := s.pending }

/-- The meaning of DEVICE_RESET. -/
def execDeviceReset (s : State) : Host.Outcome State Fault Refusal := .next (deviceReset s)

end Sys2Proof.Machine
end

