-- ==== Sys2Proof/Machine/Timers.lean ====
section
/-! DEFINITION. The divert hold's release and timeout (chapter 6), the timers of the notices (section 7.5), and the passing of
one millisecond. -/

namespace Sys2Proof.Machine

/-! ## The divert hold (R116, R118, R120) -/

/-- A held frame released for a reason: it enters a free output entry at once and the hold becomes EMPTY, or the hold becomes
RELEASING (R116, R118). -/
def releaseHeld (f : CondFrame) (reason : ReleaseReason) (s : State) : State :=
  if s.outFree then { s with hold := .empty }.enterOutput (.conditioned f)
  else { s with hold := .releasing f reason }

/-- The hold timer expires in HELD: counted, the frame marked TIMED_OUT and released (R116).  A stopped timer does not expire. -/
def holdTimerExpiry (s : State) : State :=
  match s.hold with
  | .held f (some _) =>
    releaseHeld { f with timedOut := true } .timeout
      { s with holdCounters := { s.holdCounters with timeouts := satInc s.holdCounters.timeouts } }
  | .held _ none => s
  | .releasing _ _ => s
  | .empty => s

/-- A free output queue entry goes to the waiting released frame, which enters at the tail; the hold becomes EMPTY, and a
release by request is answered OK (R120). -/
def releaseEntry (s : State) : State :=
  match s.hold with
  | .releasing f reason =>
    if s.outFree then
      let s1 := { s with hold := .empty }.enterOutput (.conditioned f)
      match reason with
      | .request => s1.endRelease ⟨.ok, releaseData f⟩
      | .timeout => s1
    else s
  | .held _ _ => s
  | .empty => s

/-! ## The timers of the notices (R136, R137) -/

/-- The coalescing timer expires in GATHERING: an INTERVAL notice, ANNOUNCED, the reminder timer started (R136). -/
def ExceptionUnit.coalescingExpiry (x : ExceptionUnit) : ExceptionUnit :=
  match x.notice, x.coalescing with
  | .gathering, some _ => x.announce .interval
  | _, _ => x

/-- The reminder timer expires in ANNOUNCED: a REMINDER notice and the count raised; below 3 the timer starts again, at 3 it is
stopped and the state becomes QUIET (R137). -/
def ExceptionUnit.reminderExpiry (x : ExceptionUnit) : ExceptionUnit :=
  match x.notice, x.reminder with
  | .announced, some _ =>
    if x.reminderCount < Config.reminderLimit then
      let n := x.reminderCount + 1
      if n < Config.reminderLimit then
        { x.placeNotice .reminder with reminderCount := n, reminder := some Config.reminderSpacing }
      else { x.placeNotice .reminder with reminderCount := n, reminder := none, notice := .quiet }
    else x
  | _, _ => x

def coalescingTimerExpiry (s : State) : State := { s with exc := s.exc.coalescingExpiry }
def reminderTimerExpiry (s : State) : State := { s with exc := s.exc.reminderExpiry }

/-! ## One millisecond (00, Time; log 5) -/

/-- A running timer with more than one millisecond left counts one; one with at most one left is due. -/
def timerDue (t : Timer) : Bool :=
  match t with
  | some n => decide (n ≤ 1)
  | none => false

def timerTick (t : Timer) : Timer := t.map (· - 1)

/-- One millisecond of the coalescing timer. -/
def tickCoalescing (s : State) : State :=
  if timerDue s.exc.coalescing then coalescingTimerExpiry s
  else { s with exc := { s.exc with coalescing := timerTick s.exc.coalescing } }

/-- One millisecond of the reminder timer. -/
def tickReminder (s : State) : State :=
  if timerDue s.exc.reminder then reminderTimerExpiry s
  else { s with exc := { s.exc with reminder := timerTick s.exc.reminder } }

/-- One millisecond of the hold timer. -/
def tickHold (s : State) : State :=
  match s.hold with
  | .held f t => if timerDue t then holdTimerExpiry s else { s with hold := .held f (timerTick t) }
  | .releasing _ _ => s
  | .empty => s

/-- One millisecond passes: each running timer counts it, and one that has none left expires by its own rule (log 5).  The
reminder timer is counted before the coalescing timer, so that one started in this millisecond runs from its whole value; the
hold timer touches neither. -/
def tick (s : State) : State := tickHold (tickCoalescing (tickReminder s))

/-! ## The meanings -/

def execHoldTimerExpiry (s : State) : Host.Outcome State Fault Refusal := .next (holdTimerExpiry s)
def execReleaseEntry (s : State) : Host.Outcome State Fault Refusal := .next (releaseEntry s)
def execCoalescingTimerExpiry (s : State) : Host.Outcome State Fault Refusal := .next (coalescingTimerExpiry s)
def execReminderTimerExpiry (s : State) : Host.Outcome State Fault Refusal := .next (reminderTimerExpiry s)

end Sys2Proof.Machine
end

