-- ==== Sys2Proof/Machine/Agent.lean ====
section
/-! DEFINITION. The management agent: the take of a request (R168) and every command of Table 9-2. -/

namespace Sys2Proof.Machine

/-! ## The take of a request (R168, R172, R173) -/

/-- A refusal without data. -/
def refuse (st : Status) : Option Reply := some ⟨st, []⟩

/-- Whether a tag is that of a deferred request (R168, R171). -/
def deferredTag (s : State) (tag : BitVec 8) : Bool :=
  s.deferredCommit.any (·.tag == tag) || s.deferredRelease.any (·.tag == tag)

/-- The conditions of a take other than a request at the head of the queue: a free response queue entry, an empty answer list
(R168). -/
def agentReady (s : State) : Bool := decide (s.responses.length < Config.responseEntries) && s.answers.isEmpty

/-- A command's own tests and effects: the state after them, and the answer, or none where the request is deferred (R171). -/
abbrev CommandBody := Request → State → State × Option Reply

/-- The tests of R168 on a request just taken, and its execution. -/
def execute (body : CommandBody) (rq : Request) (s : State) : State :=
  if deferredTag s rq.tag then s.answer rq ⟨.inProgress, []⟩
  else
    match s.cache.find? (fun e => e.request == rq) with
    | some e => { s.place (.response e.response) with replays := satInc s.replays }
    | none =>
      if !commandDefined rq.code then s.answer rq ⟨.badCommand, []⟩
      else if rq.dest = broadcastAddress ∧ !broadcastAdmitted rq.code then s.answer rq ⟨.badCommand, []⟩
      else
        match body rq s with
        | (s1, some r) => s1.answer rq r
        | (s1, none) => s1

/-- The agent takes `rq` from the head of the request queue when the request belongs to the row and the conditions of R168 hold;
its entry becomes free at the take (R167).  The clearing of the cache by an ENUMERATE that crossed a commit has reached the commit's
answer before the request is tested (R110, log 24).  No event otherwise (log 2). -/
def agentTake (row : Request → Bool) (body : CommandBody) (rq : Request) (s : State) : State :=
  match s.requests with
  | head :: rest => if head = rq ∧ row rq ∧ agentReady s then
      execute body rq { s with requests := rest }.clearCrossed
    else s
  | [] => s

/-- A request belongs to the row of a command code. -/
def hasCode (code : BitVec 8) (rq : Request) : Bool := rq.code == code

/-- A command that takes no operand word answers BAD_VALUE to a request with operand words (R168). -/
def noOperands (rq : Request) (s : State) (run : State × Option Reply) : State × Option Reply :=
  if rq.operands.isEmpty then run else (s, refuse .badValue)

/-- "While a commit is in progress, the request is refused BUSY", before any other test (R96). -/
def unlessCommit (s : State) (run : State × Option Reply) : State × Option Reply :=
  if s.phase = .idle then run else (s, refuse .busy)

/-! ## IDENTIFY and READ_STATUS (R166, R182, R193) -/

def identify : CommandBody := fun rq s => noOperands rq s (s, some ⟨.ok, identification s.nodeAddress⟩)

/-- The data of READ_STATUS (R182, R193). -/
def statusData (s : State) : List Word :=
  [ 0#2 ++ s.nodeAddress ++ s.phase.code ++ s.generation,
    s.engine.code ++ bitsOf 8 s.ingress.length ++ bitsOf 8 s.outQueue.length ++ bitsOf 8 s.transit.length,
    bitsOf 8 s.forward.length ++ bitsOf 8 s.requests.length ++ s.hold.code ++ bitsOf 8 s.exc.queue.length,
    s.exc.notice.code ++ bitsOf 8 s.dataCredits ++ bitsOf 8 s.controlCredits ++ bitsOf 8 s.outstanding,
    s.aRx.state.code ++ s.cRx.state.code ++ s.aTx.code ++ s.cTx.code ]

def readStatus : CommandBody := fun rq s => noOperands rq s (s, some ⟨.ok, statusData s⟩)

/-! ## Records of the banks (R31, R36, R52, R53, R76, R77, R91) -/

/-- A write of a shadow record: BUSY, then BAD_INDEX, then BAD_VALUE, then the whole record replaced (R31, R52, R76). -/
def writeRecord {α : Type} (n : Nat) (decode : List Word → Option α) (store : Bank → Fin n → α → Bank) : CommandBody :=
  fun rq s => unlessCommit s <|
    match rq.operands with
    | [] => (s, refuse .badValue)
    | w :: image =>
      match finOf? n (bits w 0 8) with
      | none => (s, refuse .badIndex)
      | some i =>
        match decode image with
        | none => (s, refuse .badValue)
        | some r => ({ s with shadow := store s.shadow i r }, some ⟨.ok, []⟩)

/-- The bank that a selector code names: 1 ACTIVE, 2 SHADOW (R91, Table 11-7). -/
def selectedBank (s : State) (selector : Nat) : Option Bank :=
  match selector with
  | 1 => some s.active
  | 2 => some s.shadow
  | _ => none

/-- A read of a record: the index tested first, then the selector, and the operand count with it (R91, R168; log 7). -/
def readRecord (n : Nat) (image : Bank → Fin n → List Word) : CommandBody := fun rq s =>
  match rq.operands with
  | [] => (s, refuse .badValue)
  | w :: rest =>
    match finOf? n (bits w 0 8) with
    | none => (s, refuse .badIndex)
    | some i =>
      if rest.isEmpty then
        match selectedBank s (bits w 8 8) with
        | none => (s, refuse .badValue)
        | some b => (s, some ⟨.ok, image b i⟩)
      else (s, refuse .badValue)

def writeChannel : CommandBody := writeRecord 128 decodeDescriptor Bank.setChannel
def writeStream : CommandBody := writeRecord 8 decodeStream Bank.setStream
def writeClass : CommandBody := writeRecord 8 decodeClass Bank.setClass
def readChannel : CommandBody := readRecord 128 fun b i => encodeDescriptor (b.channel i)
def readStream : CommandBody := readRecord 8 fun b i => encodeStream (b.stream i)
def readClass : CommandBody := readRecord 8 fun b i => encodeClass (b.classRecord i)

/-- COPY_ACTIVE: the shadow bank set equal to the active bank (R92). -/
def copyActive : CommandBody := fun rq s =>
  unlessCommit s (noOperands rq s ({ s with shadow := s.active }, some ⟨.ok, []⟩))

/-- COMMIT: accepted in phase IDLE, COMPILING begins and the request is deferred (R95). -/
def commit : CommandBody := fun rq s =>
  unlessCommit s (noOperands rq s ({ s with phase := .compiling, deferredCommit := some rq, commitEnumerated := false }, none))

/-! ## READ_LAYOUT (R88, R89, R193) -/

/-- One word for a slot entry (R193). -/
def SlotEntry.wordOf (e : SlotEntry) : Word := bitsOf 8 e.offset ++ bitsOf 8 e.width ++ bitsOf 8 e.channel ++ e.role.code

/-- The data of READ_LAYOUT (R88, R193; bits 31-24 of word 1 zero, log 25). -/
def layoutData (s : State) (i : Fin 8) (first : Nat) : List Word :=
  let entries := match s.layouts.get i with | some l => l.entries | none => []
  let length := match s.layouts.get i with | some l => l.length | none => 0
  let run := (entries.drop first).take Config.layoutPage
  [ s.generation ++ flagBit (s.active.stream i).enabled ++ bitsOf 7 i ++ bitsOf 8 length,
    0#8 ++ bitsOf 8 entries.length ++ bitsOf 8 first ++ bitsOf 8 run.length ] ++ run.map SlotEntry.wordOf

def readLayout : CommandBody := fun rq s =>
  match rq.operands with
  | [] => (s, refuse .badValue)
  | w :: rest =>
    match finOf? 8 (bits w 8 8) with
    | none => (s, refuse .badIndex)
    | some i =>
      if 95 < bits w 0 8 then (s, refuse .badIndex)
      else if rest.isEmpty then (s, some ⟨.ok, layoutData s i (bits w 0 8)⟩)
      else (s, refuse .badValue)

/-! ## FETCH_EXCEPTIONS and ACK_EXCEPTIONS (R130 to R132, R193) -/

/-- The records after the one of sequence number `n`, or none where no record has it. -/
def recordsAfter (n : Seq) : List ExceptionRecord → Option (List ExceptionRecord)
  | [] => none
  | r :: rest => if r.seq = n then some rest else recordsAfter n rest

/-- The records from the first one to return onward, and whether the read restarts at the head (R130). -/
def fetchFrom (queue : List ExceptionRecord) (after : Option Seq) : List ExceptionRecord × Bool :=
  match after with
  | none => (queue, false)
  | some n =>
    match recordsAfter n queue with
    | some rest => (rest, false)
    | none => (queue, true)

/-- The data of FETCH_EXCEPTIONS (R130, R193, R194; bits 29-16 of word 0 zero, log 25). -/
def fetchData (queue : List ExceptionRecord) (after : Option Seq) : List Word :=
  let r := fetchFrom queue after
  let page := r.1.take Config.fetchPage
  (flagBit (decide (Config.fetchPage < r.1.length)) ++ flagBit r.2 ++ 0#14 ++ bitsOf 8 queue.length ++ bitsOf 8 page.length)
    :: (page.map ExceptionRecord.words).flatten

/-- The "after" operand: presence code 0 absent, 1 present, any other without meaning (R131, Table 11-5). -/
def afterOperand (w : Word) : Option (Option Seq) :=
  match bits w 24 8 with
  | 0 => some none
  | 1 => some (some (w.extractLsb' 0 16))
  | _ => none

def fetchExceptions : CommandBody := fun rq s =>
  match rq.operands with
  | [w] =>
    match afterOperand w with
    | none => (s, refuse .badValue)
    | some after => (s, some ⟨.ok, fetchData s.exc.queue after⟩)
  | _ => (s, refuse .badValue)

/-- The occupancy as answered by ACK_EXCEPTIONS (R193; bits 31-8 zero, log 25). -/
def occupancyData (queue : List ExceptionRecord) : List Word := [0#24 ++ bitsOf 8 queue.length]

/-- The unit after an acknowledgement that leaves the given records: emptying the queue makes the notice state QUIET, stops both
timers and sets the reminder count to 0 (R132, R137). -/
def ExceptionUnit.acknowledge (x : ExceptionUnit) (rest : List ExceptionRecord) : ExceptionUnit :=
  if rest.isEmpty then
    { x with queue := [], notice := .quiet, coalescing := none, reminder := none, reminderCount := 0 }
  else { x with queue := rest }

def ackExceptions : CommandBody := fun rq s =>
  match rq.operands with
  | [w] =>
    match recordsAfter (w.extractLsb' 0 16) s.exc.queue with
    | none => (s, some ⟨.stale, occupancyData s.exc.queue⟩)
    | some rest => ({ s with exc := s.exc.acknowledge rest }, some ⟨.ok, occupancyData rest⟩)
  | _ => (s, refuse .badValue)

/-! ## READ_STICKY and CLEAR_STICKY (R49, R176, R193) -/

/-- Eight groups of four bits as a word, the first in bits 31-28; a group that no channel of the run uses is zero (log 25). -/
def nibbleWord (l : List (BitVec 4)) : Word :=
  l.getD 0 0 ++ l.getD 1 0 ++ l.getD 2 0 ++ l.getD 3 0 ++ l.getD 4 0 ++ l.getD 5 0 ++ l.getD 6 0 ++ l.getD 7 0

/-- Four bits per channel, eight channels per word from bit 31 (R193); `n` is the number of words. -/
def nibbleWords (n : Nat) (l : List (BitVec 4)) : List Word :=
  (List.range n).map fun k => nibbleWord (l.drop (8 * k))

/-- The data of READ_STICKY: the operands, then the flags of the run of channels (R176, R193; the places of the echoed operands,
log 10). -/
def stickyData (s : State) (first count : Nat) : List Word :=
  (0#16 ++ bitsOf 8 first ++ bitsOf 8 count) ::
    nibbleWords ((count + 7) / 8) (((s.sticky.toList.drop first).take count).map Sticky.nibble)

def readSticky : CommandBody := fun rq s =>
  match rq.operands with
  | [] => (s, refuse .badValue)
  | w :: rest =>
    let first := bits w 8 8
    let count := bits w 0 8
    if 127 < first then (s, refuse .badIndex)
    else if count = 0 ∨ 128 < first + count ∨ rest ≠ [] then (s, refuse .badValue)
    else (s, some ⟨.ok, stickyData s first count⟩)

def clearSticky : CommandBody := fun rq s =>
  match rq.operands with
  | [w] =>
    match bits w 24 8 with
    | 1 =>
      match finOf? 128 (bits w 0 8) with
      | none => (s, refuse .badIndex)
      | some i => ({ s with sticky := s.sticky.set i.val .clear i.isLt }, some ⟨.ok, []⟩)
    | 2 => ({ s with sticky := Vector.replicate 128 .clear }, some ⟨.ok, []⟩)
    | _ => (s, refuse .badValue)
  | _ => (s, refuse .badValue)

/-! ## RELEASE_HOLD (R117, R118, R119) -/

/-- The data of NOT_HELD: the hold state (R117, R193; bits 31-8 zero, log 25). -/
def holdStateData (h : Hold) : List Word := [0#24 ++ h.code]

/-- RELEASE_HOLD FORWARD in HELD: the frame marked RELEASED; answered OK where an entry is free, else deferred (R118). -/
def releaseForward (f : CondFrame) (rq : Request) (s : State) : State × Option Reply :=
  let g := { f with released := true }
  if s.outFree then (releaseHeld g .request s, some ⟨.ok, releaseData g⟩)
  else ({ releaseHeld g .request s with deferredRelease := some rq }, none)

/-- RELEASE_HOLD DISCARD in HELD: the frame dropped and counted (R119). -/
def releaseDiscard (f : CondFrame) (s : State) : State × Option Reply :=
  ({ s with
      hold := .empty
      holdCounters := { s.holdCounters with discarded := satInc s.holdCounters.discarded } },
    some ⟨.ok, releaseData f⟩)

def releaseHold : CommandBody := fun rq s =>
  match operandCode rq with
  | some 1#8 =>
    match s.hold with
    | .held f _ => releaseForward f rq s
    | h => (s, some ⟨.notHeld, holdStateData h⟩)
  | some 2#8 =>
    match s.hold with
    | .held f _ => releaseDiscard f s
    | h => (s, some ⟨.notHeld, holdStateData h⟩)
  | _ => (s, refuse .badValue)

/-! ## Counters (R185, R186) -/

/-- The counter groups (Table 10-2). -/
inductive CounterGroup where
  | lane | engine | hold | agent
deriving DecidableEq, Repr

/-- The group that a selector code names (Table 11-7). -/
def groupOfCode : BitVec 8 → Option CounterGroup
  | 1#8 => some .lane
  | 2#8 => some .engine
  | 3#8 => some .hold
  | 4#8 => some .agent
  | _ => none

def CounterGroup.code : CounterGroup → BitVec 8
  | .lane => 1 | .engine => 2 | .hold => 3 | .agent => 4

def RxCounters.list (k : RxCounters) : List Counter :=
  [k.laneDowns, k.truncated, k.tooLong, k.malformed, k.crcErrors, k.wrongDirection]

def StreamCounters.list (k : StreamCounters) : List Counter := [k.converted, k.exceptions, k.gaps]

/-- The counters of a group in the order of R185. -/
def groupCounters (s : State) : CounterGroup → List Counter
  | .lane =>
    s.laneCounters.a.list ++ s.laneCounters.c.list ++
      [s.laneCounters.ingressOverflow, s.laneCounters.transitOverflow, s.laneCounters.forwardOverflow]
  | .engine =>
    (s.engineCounters.streams.toList.map StreamCounters.list).flatten ++
      [s.engineCounters.unmatchedForwarded, s.engineCounters.unmatchedDiscarded, s.engineCounters.conditionedForwarded]
  | .hold => [s.holdCounters.diverted, s.holdCounters.refused, s.holdCounters.discarded, s.holdCounters.timeouts]
  | .agent => [s.requestDrops, s.replays, s.exc.lost]

/-- Word 0 the group selector, then one word per counter (R185, R193; the selector in bits 7-0 of word 0 and zero above it,
DESIGN CHOICE, log 10). -/
def counterData (s : State) (g : CounterGroup) : List Word := (0#24 ++ g.code) :: groupCounters s g

/-- The counters of a group set to 0; the lost-record counter of the AGENT group is left (R186). -/
def clearGroup (s : State) : CounterGroup → State
  | .lane => { s with laneCounters := .zero }
  | .engine => { s with engineCounters := .zero }
  | .hold => { s with holdCounters := .zero }
  | .agent => { s with requestDrops := 0, replays := 0 }

def readCounters : CommandBody := fun rq s =>
  match (operandCode rq).bind groupOfCode with
  | none => (s, refuse .badValue)
  | some g => (s, some ⟨.ok, counterData s g⟩)

def clearCounters : CommandBody := fun rq s =>
  match (operandCode rq).bind groupOfCode with
  | none => (s, refuse .badValue)
  | some g => (clearGroup s g, some ⟨.ok, counterData s g⟩)

/-! ## Parameters (R175) -/

/-- The parameters (R175, Table 11-7). -/
inductive Parameter where
  | coalesceInterval | noticeThreshold | holdTimeout | unmatched
deriving DecidableEq, Repr

def parameterOfCode : Nat → Option Parameter
  | 1 => some .coalesceInterval | 2 => some .noticeThreshold | 3 => some .holdTimeout | 4 => some .unmatched | _ => none

def Parameter.code : Parameter → BitVec 8
  | .coalesceInterval => 1 | .noticeThreshold => 2 | .holdTimeout => 3 | .unmatched => 4

/-- The value of a parameter as a number; UNMATCHED is FORWARD 0, DISCARD 1 (Table 11-7). -/
def Params.value (p : Params) : Parameter → Nat
  | .coalesceInterval => p.coalesceInterval
  | .noticeThreshold => p.noticeThreshold
  | .holdTimeout => p.holdTimeout
  | .unmatched => p.unmatched.code

/-- The parameters with one set, none for a value outside its range (R175). -/
def Params.write (p : Params) (k : Parameter) (v : Nat) : Option Params :=
  match k with
  | .coalesceInterval => if 1 ≤ v ∧ v ≤ 255 then some { p with coalesceInterval := v } else none
  | .noticeThreshold => if 1 ≤ v ∧ v ≤ 32 then some { p with noticeThreshold := v } else none
  | .holdTimeout => if v ≤ 1000 then some { p with holdTimeout := v } else none
  | .unmatched =>
    match v with
    | 0 => some { p with unmatched := .forward }
    | 1 => some { p with unmatched := .discard }
    | _ => none

/-- The parameter code and the value now in force (R175, R193; the word positions and the zero in bits 31-8 of word 0, DESIGN CHOICE,
log 10). -/
def parameterData (p : Params) (k : Parameter) : List Word := [0#24 ++ k.code, BitVec.ofNat 32 (p.value k)]

def setParameter : CommandBody := fun rq s =>
  match rq.operands with
  | [] => (s, refuse .badValue)
  | w :: rest =>
    match parameterOfCode (bits w 0 8) with
    | none => (s, refuse .badIndex)
    | some k =>
      match rest with
      | [v] =>
        match s.params.write k v.toNat with
        | none => (s, refuse .badValue)
        | some p => ({ s with params := p }, some ⟨.ok, parameterData p k⟩)
      | _ => (s, refuse .badValue)

def readParameter : CommandBody := fun rq s =>
  match rq.operands with
  | [] => (s, refuse .badValue)
  | w :: rest =>
    match parameterOfCode (bits w 0 8) with
    | none => (s, refuse .badIndex)
    | some k => if rest.isEmpty then (s, some ⟨.ok, parameterData s.params k⟩) else (s, refuse .badValue)

/-! ## RESET (R177 to R180) -/

/-- The effects of the scope, and the OK answer that carries it; a scope code that names none is answered BAD_VALUE (R177;
the place of the scope in bits 7-0 of the answer and the zero in its bits 31-8, DESIGN CHOICE, log 10). -/
def reset : CommandBody := fun rq s =>
  match operandCode rq with
  | some 1#8 => (pipelineReset s, some ⟨.ok, [0#24 ++ ScopeCode.pipeline]⟩)
  | some 2#8 => (exceptionReset s, some ⟨.ok, [0#24 ++ ScopeCode.exceptions]⟩)
  | some 3#8 => (fullReset s, some ⟨.ok, [0#24 ++ ScopeCode.all]⟩)
  | _ => (s, refuse .badValue)

/-- A code that names no command is answered BAD_COMMAND (R168, third test). -/
def undefinedCommand : CommandBody := fun _ s => (s, refuse .badCommand)

/-! ## The meanings: one take for each row -/

def execIdentify (rq : Request) (s : State) : Host.Outcome State Fault Refusal :=
  .next (agentTake (hasCode CommandCode.identify) identify rq s)
def execReadStatus (rq : Request) (s : State) : Host.Outcome State Fault Refusal :=
  .next (agentTake (hasCode CommandCode.readStatus) readStatus rq s)
def execWriteChannel (rq : Request) (s : State) : Host.Outcome State Fault Refusal :=
  .next (agentTake (hasCode CommandCode.writeChannel) writeChannel rq s)
def execReadChannel (rq : Request) (s : State) : Host.Outcome State Fault Refusal :=
  .next (agentTake (hasCode CommandCode.readChannel) readChannel rq s)
def execWriteStream (rq : Request) (s : State) : Host.Outcome State Fault Refusal :=
  .next (agentTake (hasCode CommandCode.writeStream) writeStream rq s)
def execReadStream (rq : Request) (s : State) : Host.Outcome State Fault Refusal :=
  .next (agentTake (hasCode CommandCode.readStream) readStream rq s)
def execWriteClass (rq : Request) (s : State) : Host.Outcome State Fault Refusal :=
  .next (agentTake (hasCode CommandCode.writeClass) writeClass rq s)
def execReadClass (rq : Request) (s : State) : Host.Outcome State Fault Refusal :=
  .next (agentTake (hasCode CommandCode.readClass) readClass rq s)
def execCopyActive (rq : Request) (s : State) : Host.Outcome State Fault Refusal :=
  .next (agentTake (hasCode CommandCode.copyActive) copyActive rq s)
def execCommit (rq : Request) (s : State) : Host.Outcome State Fault Refusal :=
  .next (agentTake (hasCode CommandCode.commit) commit rq s)
def execReadLayout (rq : Request) (s : State) : Host.Outcome State Fault Refusal :=
  .next (agentTake (hasCode CommandCode.readLayout) readLayout rq s)
def execFetchExceptions (rq : Request) (s : State) : Host.Outcome State Fault Refusal :=
  .next (agentTake (hasCode CommandCode.fetchExceptions) fetchExceptions rq s)
def execAckExceptions (rq : Request) (s : State) : Host.Outcome State Fault Refusal :=
  .next (agentTake (hasCode CommandCode.ackExceptions) ackExceptions rq s)
def execReadSticky (rq : Request) (s : State) : Host.Outcome State Fault Refusal :=
  .next (agentTake (hasCode CommandCode.readSticky) readSticky rq s)
def execClearSticky (rq : Request) (s : State) : Host.Outcome State Fault Refusal :=
  .next (agentTake (hasCode CommandCode.clearSticky) clearSticky rq s)
def execReleaseHoldForward (rq : Request) (s : State) : Host.Outcome State Fault Refusal :=
  .next (agentTake (isRelease ReleaseCode.discard) releaseHold rq s)
def execReleaseHoldDiscard (rq : Request) (s : State) : Host.Outcome State Fault Refusal :=
  .next (agentTake (isRelease ReleaseCode.forward) releaseHold rq s)
def execReadCounters (rq : Request) (s : State) : Host.Outcome State Fault Refusal :=
  .next (agentTake (hasCode CommandCode.readCounters) readCounters rq s)
def execClearCounters (rq : Request) (s : State) : Host.Outcome State Fault Refusal :=
  .next (agentTake (hasCode CommandCode.clearCounters) clearCounters rq s)
def execSetParameter (rq : Request) (s : State) : Host.Outcome State Fault Refusal :=
  .next (agentTake (hasCode CommandCode.setParameter) setParameter rq s)
def execReadParameter (rq : Request) (s : State) : Host.Outcome State Fault Refusal :=
  .next (agentTake (hasCode CommandCode.readParameter) readParameter rq s)
def execResetPipeline (rq : Request) (s : State) : Host.Outcome State Fault Refusal :=
  .next (agentTake (isReset ScopeCode.exceptions ScopeCode.all) reset rq s)
def execResetExceptions (rq : Request) (s : State) : Host.Outcome State Fault Refusal :=
  .next (agentTake (isReset ScopeCode.pipeline ScopeCode.all) reset rq s)
def execResetAll (rq : Request) (s : State) : Host.Outcome State Fault Refusal :=
  .next (agentTake (isReset ScopeCode.pipeline ScopeCode.exceptions) reset rq s)
def execUndefinedCommand (rq : Request) (s : State) : Host.Outcome State Fault Refusal :=
  .next (agentTake (fun rq => !commandDefined rq.code) undefinedCommand rq s)

end Sys2Proof.Machine
end

