-- ==== Sys2Proof/Machine/CommitSteps.lean ====
section
/-! DEFINITION. The events of a commit after its acceptance: failure of validation, end of compilation, swap (sections 5.5, 5.6). -/

namespace Sys2Proof.Machine

/-- The data of COMMIT_FAILED: generation, reason and index, and the stream where one is concerned (R104, R193).  Word 1 has zero in
bits 31-9, and in bits 7-0 where the stream is absent (DESIGN CHOICE, log 25). -/
def commitFailedData (generation : Seq) (f : CommitFault) : List Word :=
  [ generation ++ f.reason.code ++ bitsOf 8 f.index,
    match f.stream with
    | some i => 0#23 ++ 1#1 ++ bitsOf 8 i
    | none => 0#32 ]

/-- Validation finds a fault of the shadow bank: pending layouts discarded, phase IDLE, the COMMIT answered (R104). -/
def validationFailure (s : State) : State :=
  match s.phase, validate s.shadow with
  | .compiling, some f =>
    { s with phase := .idle, pendingLayouts := none }.endCommit ⟨.commitFailed, commitFailedData s.generation f⟩
  | _, _ => s

/-- Compilation ends with every check passed: the pending set is complete and the phase SWAP_PENDING (R103, R105). -/
def compilationEnd (s : State) : State :=
  match s.phase, validate s.shadow with
  | .compiling, none => { s with phase := .swapPending, pendingLayouts := some (compileLayouts s.shadow) }
  | _, _ => s

/-- The generation after a swap: one more, but 1 after 65535 (R93). -/
def nextGeneration (g : Seq) : Seq := if g = 65535#16 then 1#16 else g + 1#16

/-- Whether the claim of a stream record index differs between two banks: its enabled field or input stream id (R55). -/
def claimDiffers (old new : Bank) (i : Fin 8) : Bool :=
  (old.stream i).enabled != (new.stream i).enabled || (old.stream i).inputId != (new.stream i).inputId

/-- The runtime states after a swap: set back where the claim differs, kept elsewhere (R55, R107). -/
def runtimeAfterSwap (old new : Bank) (runtime : Vector StreamRuntime 8) : Vector StreamRuntime 8 :=
  Vector.ofFn fun i => if claimDiffers old new i then StreamRuntime.reset else runtime.get i

/-- The swap, with the phase SWAP_PENDING and the engine IDLE: all the changes of R107 as one event, and the COMMIT answered OK
with the new generation (R106, R107, R108; bits 31-16 of the answer zero, log 25). -/
def swap (s : State) : State :=
  match s.phase, s.engine, s.pendingLayouts with
  | .swapPending, .idle, some layouts =>
    { s with
      active := s.shadow
      layouts := layouts
      pendingLayouts := none
      generation := nextGeneration s.generation
      runtime := runtimeAfterSwap s.active s.shadow s.runtime
      phase := .idle }.endCommit ⟨.ok, [0#16 ++ nextGeneration s.generation]⟩
  | _, _, _ => s

/-! ## The meanings -/

def execValidationFailure (s : State) : Host.Outcome State Fault Refusal := .next (validationFailure s)
def execCompilationEnd (s : State) : Host.Outcome State Fault Refusal := .next (compilationEnd s)
def execSwap (s : State) : Host.Outcome State Fault Refusal := .next (swap s)

end Sys2Proof.Machine
end

