-- ==== Sys2Proof/Machine/Conversion.lean ====
section
/-! DEFINITION. The conversion engine: the take, the slots, and the completion (chapter 3, section 6.2). -/

namespace Sys2Proof.Machine

/-! ## The take (R59 to R64) -/

/-- Whether a released frame of the divert hold waits for an output queue entry (R59, R120). -/
def releaseWaits (s : State) : Bool :=
  match s.hold with
  | .releasing _ _ => true
  | .held _ _ => false
  | .empty => false

/-- The conditions of a take other than a frame at the head of the ingress buffer (R59). -/
def takeAllowed (s : State) : Bool :=
  s.engine == .idle && s.outFree && !releaseWaits s && s.phase != .swapPending

/-- The enabled stream record of the active bank whose input stream id a raw frame carries (R60). -/
def matchedStream (b : Bank) (f : Frame) : Option (Fin 8) :=
  (List.finRange 8).find? fun i => (b.stream i).enabled && (b.stream i).inputId == f.streamId

/-- A frame with its conditioned flag set is forwarded unchanged and counted (R61). -/
def forwardConditioned (f : Frame) (s : State) : State :=
  let s1 := s.freeIngress.enterOutput (.passed f)
  { s1 with engineCounters :=
      { s1.engineCounters with conditionedForwarded := satInc s1.engineCounters.conditionedForwarded } }

/-- An unmatched raw frame is forwarded unchanged, or discarded, by the parameter UNMATCHED, and counted (R62). -/
def settleUnmatched (f : Frame) (s : State) : State :=
  match s.params.unmatched with
  | .forward =>
    let s1 := s.freeIngress.enterOutput (.passed f)
    { s1 with engineCounters :=
        { s1.engineCounters with unmatchedForwarded := satInc s1.engineCounters.unmatchedForwarded } }
  | .discard =>
    let s1 := s.freeIngress
    { s1 with engineCounters :=
        { s1.engineCounters with unmatchedDiscarded := satInc s1.engineCounters.unmatchedDiscarded } }

/-- The runtime state of a stream record index replaced. -/
def State.setRuntime (s : State) (i : Fin 8) (r : StreamRuntime) : State :=
  { s with runtime := s.runtime.set i.val r i.isLt }

/-- The counters of a stream record index changed. -/
def State.countStream (s : State) (i : Fin 8) (f : StreamCounters → StreamCounters) : State :=
  { s with engineCounters :=
      { s.engineCounters with streams := s.engineCounters.streams.set i.val (f (s.engineCounters.streams.get i)) i.isLt } }

/-- A gap frame: the expected sequence is valid and differs from the frame's (R63). -/
def isGap (r : StreamRuntime) (f : Frame) : Bool := r.expectedValid && r.expected != f.inputSeq

/-- The gap check: a gap is counted, and the expected sequence advanced and valid (R63). -/
def gapCheck (i : Fin 8) (f : Frame) (s : State) : State :=
  let r := s.runtime.get i
  let s1 := s.setRuntime i { r with expected := f.inputSeq + 1, expectedValid := true }
  if isGap r f then s1.countStream i fun k => { k with gaps := satInc k.gaps } else s1

/-- A length condition: the payload word count differs from the declared one (R64). -/
def lengthDiffers (b : Bank) (i : Fin 8) (f : Frame) : Bool := f.payload.length != (b.stream i).declared

/-- The length check: a LENGTH record when the flag is clear, and the flag set (R64). -/
def lengthCheck (i : Fin 8) (f : Frame) (s : State) : State :=
  if lengthDiffers s.active i f then
    let r := s.runtime.get i
    if r.lengthSticky then s
    else
      (s.handRecord (lengthRecord s.generation i f.inputSeq (s.active.stream i).declared f.payload.length)).setRuntime i
        { r with lengthSticky := true }
  else s

/-- The layout of a stream in the active set.  An enabled stream of the active bank has one (R86); a state that no run reaches
and that holds none is given the layout without slots (log 15). -/
def activeLayout (s : State) (i : Fin 8) : Layout := (s.layouts.get i).getD ⟨[], 0⟩

/-- The slot entries in ascending channel number, the order in which conditions are taken (R67; log 6). -/
def byChannel (entries : List SlotEntry) : List SlotEntry :=
  (List.finRange 128).filterMap fun ch => entries.find? fun e => e.channel == ch

/-- The conversion of a matching frame begins: generation noted, gap and length checks made, every slot still to settle, every
payload word zero (R60, R63, R64, R66). -/
def beginConversion (i : Fin 8) (f : Frame) (s : State) : State :=
  let c : Conversion :=
    { generation := s.generation
      stream := i
      gap := isGap (s.runtime.get i) f
      exception := lengthDiffers s.active i f
      diverting := false
      remaining := byChannel (activeLayout s i).entries
      payload := List.replicate (activeLayout s i).length 0 }
  { lengthCheck i f (gapCheck i f s) with engine := .converting c }

/-- The engine takes the head frame of the ingress buffer and sorts it (R59, R60). -/
def engineTake (s : State) : State :=
  match s.ingress with
  | [] => s
  | f :: _ =>
    if takeAllowed s then
      if f.conditioned then forwardConditioned f s
      else
        match matchedStream s.active f with
        | none => settleUnmatched f s
        | some i => beginConversion i f s
    else s

/-! ## The slots (R65, R67, R45, R46) -/

/-- The words of a slot written from its offset on, the high word first (R65). -/
def writeWords (payload : List Word) (offset : Nat) : List Word → List Word
  | [] => payload
  | w :: ws => writeWords (payload.set offset w) (offset + 1) ws

/-- A condition is taken: the owner's report mode decides whether a record is formed and handed on, and the owner's sticky flag
is set (R45, R46, R67). -/
def takeCondition (c : Conversion) (inputSeq : Seq) (owner : Fin 128) (stored : List Word) (k : Condition) (s : State) :
    State :=
  let flags := s.sticky.get owner
  let s1 :=
    if formsRecord (s.active.channel owner).report flags k.cls then
      s.handRecord (channelRecord c.generation c.stream inputSeq owner k stored)
    else s
  { s1 with sticky := s1.sticky.set owner.val (flags.mark k.cls) owner.isLt }

/-- The conversion after a slot has been settled (R43, R65, R68). -/
def Conversion.afterSlot (c : Conversion) (e : SlotEntry) (rest : List SlotEntry) (r : Settled) : Conversion :=
  { c with
    remaining := rest
    payload := writeWords c.payload e.offset r.stored
    exception := c.exception || r.condition.isSome
    diverting := c.diverting || r.condition.any Condition.diverts }

/-- The engine settles the next slot and takes its owner's condition, if one arose (R65, R67). -/
def slotConversion (s : State) : State :=
  match s.engine, s.ingress with
  | .converting c, f :: _ =>
    match c.remaining with
    | [] => s
    | e :: rest =>
      let r := settleSlot s.active f.payload e
      let s1 := { s with engine := .converting (c.afterSlot e rest r) }
      match r.condition with
      | none => s1
      | some k => takeCondition c f.inputSeq e.channel r.stored k s1
  | _, _ => s

/-! ## Completion (R69 to R71, R112, R113) -/

/-- The conditioned frame of a conversion at its completion (R71). -/
def completedFrame (c : Conversion) (f : Frame) (s : State) : CondFrame where
  exception := c.exception
  gap := c.gap
  released := false
  timedOut := false
  refused := false
  node := s.nodeAddress
  outputId := (s.active.stream c.stream).outputId
  inputSeq := f.inputSeq
  outputSeq := (s.runtime.get c.stream).nextOutput
  timestamp := f.timestamp
  generation := c.generation
  payload := c.payload

/-- A diverting frame enters an EMPTY hold; the hold timer starts unless HOLD_TIMEOUT is 0; counted (R112, R115). -/
def enterHold (g : CondFrame) (s : State) : State :=
  { s with
    hold := .held g (if s.params.holdTimeout = 0 then none else some s.params.holdTimeout)
    holdCounters := { s.holdCounters with diverted := satInc s.holdCounters.diverted } }

/-- A diverting frame that the hold refuses enters its reserved entry with DIVERT_REFUSED, and a HOLD_BUSY record is formed;
counted (R113). -/
def refuseDivert (c : Conversion) (g : CondFrame) (s : State) : State :=
  let s1 := (s.enterOutput (.conditioned { g with refused := true })).handRecord
    (frameRecord .holdBusy c.generation c.stream g.inputSeq)
  { s1 with holdCounters := { s1.holdCounters with refused := satInc s1.holdCounters.refused } }

/-- The destination of a completed frame (R70). -/
def sendCompleted (c : Conversion) (g : CondFrame) (s : State) : State :=
  if c.diverting then
    match s.hold with
    | .empty => enterHold g s
    | .held _ _ => refuseDivert c g s
    | .releasing _ _ => refuseDivert c g s
  else s.enterOutput (.conditioned g)

/-- The counters of a completion (R70). -/
def StreamCounters.complete (k : StreamCounters) (exception : Bool) : StreamCounters :=
  { k with
    converted := satInc k.converted
    exceptions := if exception then satInc k.exceptions else k.exceptions }

/-- Conversion completion, when every slot is settled: the output sequence given and advanced, the counters, the ingress entry
freed and granted, the frame sent on, the engine IDLE (R69, R70). -/
def conversionCompletion (s : State) : State :=
  match s.engine, s.ingress with
  | .converting c, f :: _ =>
    match c.remaining with
    | _ :: _ => s
    | [] =>
      let g := completedFrame c f s
      let r := s.runtime.get c.stream
      let s1 := s.setRuntime c.stream { r with nextOutput := r.nextOutput + 1 }
      let s2 := (s1.countStream c.stream (·.complete c.exception)).freeIngress
      { sendCompleted c g s2 with engine := .idle }
  | _, _ => s

/-! ## The meanings -/

def execEngineTake (s : State) : Host.Outcome State Fault Refusal := .next (engineTake s)
def execSlotConversion (s : State) : Host.Outcome State Fault Refusal := .next (slotConversion s)
def execConversionCompletion (s : State) : Host.Outcome State Fault Refusal := .next (conversionCompletion s)

end Sys2Proof.Machine
end

