-- ==== Sys2Proof/Machine/Lanes.lean ====
section
/-! DEFINITION. The receive lanes: lock, symbols, frame ends, sorting, enumeration and the credits received (sections 8.1 to
8.5, section 9.1). -/

namespace Sys2Proof.Machine

/-! ## Lock and line symbols (R144, R145, R146) -/

/-- A DOWN lane becomes SYNCING with IDLE count 0 (Table 8-1); a lane that holds lock is as it was (log 2). -/
def symbolLock (side : Side) (s : State) : State :=
  match (s.rx side).state with
  | .down => s.setRx side { s.rx side with state := .syncing, idleCount := 0 }
  | .syncing => s
  | .up => s

/-- A SYNCING or UP lane becomes DOWN (Table 8-1); from SYNCING too the credits of its side are cleared and it keeps its counts
(DEDUCED, log 17). -/
def lossOfLock (side : Side) (s : State) : State :=
  match (s.rx side).state with
  | .down => s
  | .syncing => (s.setRx side { s.rx side with state := .down }).clearCredits side
  | .up => s.laneDown side

/-- A SYNCING lane that becomes UP, invalid count 0; on A-receive the credit restart is decided (R144, R145, R160). -/
def laneUp (side : Side) (s : State) : State :=
  let s1 := s.setRx side { s.rx side with state := .up, invalidCount := 0 }
  match side with
  | .a => s1.creditRestart
  | .c => s1

/-- A valid IDLE: counted in SYNCING, closing a frame as malformed in UP (Table 8-1, R146). -/
def idleSymbol (side : Side) (s : State) : State :=
  match (s.rx side).state with
  | .down => s
  | .syncing =>
    let n := (s.rx side).idleCount + 1
    let s1 := s.setRx side { s.rx side with idleCount := n }
    if n < Config.idlesToUp then s1 else laneUp side s1
  | .up => (s.setRx side { s.rx side with invalidCount := 0 }).closeMalformed side

/-- An invalid symbol: sets the IDLE count to 0 in SYNCING; counted in UP, where it marks a frame corrupt, and the fourth in a
run makes the lane DOWN (Table 8-1, R146). -/
def invalidSymbol (side : Side) (s : State) : State :=
  match (s.rx side).state with
  | .down => s
  | .syncing => s.setRx side { s.rx side with idleCount := 0 }
  | .up =>
    let n := (s.rx side).invalidCount + 1
    let marked := (s.rx side).assembly.map fun b => { b with corrupt := true }
    let s1 := s.setRx side { s.rx side with invalidCount := n, assembly := marked }
    if n < Config.invalidsToDown then s1 else s1.laneDown side

/-- START opens a frame, after closing as malformed one that was being gathered (R146). -/
def startSymbol (side : Side) (s : State) : State :=
  s.onValidSymbol side fun s1 =>
    let s2 := s1.closeMalformed side
    s2.setRx side { s2.rx side with assembly := some .fresh }

/-- A data word is gathered inside a frame; between frames it is disregarded and counted as malformed (R146). -/
def dataWordSymbol (side : Side) (w : Word) (s : State) : State :=
  s.onValidSymbol side fun s1 =>
    match (s1.rx side).assembly with
    | some b => s1.setRx side { s1.rx side with assembly := some (b.gather w) }
    | none => s1.countRx side RxCounters.countMalformed

/-! ## Frame ends -/

/-- END on an UP lane: inside a frame the buffer is emptied and the frame handed on, between frames it is disregarded and
counted as malformed (R146). -/
def frameEnd (side : Side) (close : Assembly → State → State) (s : State) : State :=
  s.onValidSymbol side fun s1 =>
    match (s1.rx side).assembly with
    | some b => close b (s1.setRx side { s1.rx side with assembly := none })
    | none => s1.countRx side RxCounters.countMalformed

/-- The sorting of a good frame on A-receive (R150). -/
def sortARx (k : FrameKind) (f : Frame) (s : State) : State :=
  match k with
  | .data =>
    if s.ingress.length < Config.ingressEntries then { s with ingress := s.ingress ++ [f] }
    else { s with laneCounters := { s.laneCounters with ingressOverflow := satInc s.laneCounters.ingressOverflow } }
  | .response | .notice | .report =>
    if s.transit.length < Config.transitEntries then { s with transit := s.transit ++ [f] }
    else { s with laneCounters := { s.laneCounters with transitOverflow := satInc s.laneCounters.transitOverflow } }
  | .request | .enumerate => s.countRx .a RxCounters.countWrongDirection

/-- The close of a frame on A-receive by END.  A frame whose header shows DATA lowers the outstanding count (R158); one that
fails the checks is counted, and answered with a grant where its close lowered the count (R148, R161). -/
def closeARx (b : Assembly) (s : State) : State :=
  let lowers := b.shownKind == some .data && decide (0 < s.outstanding)
  let s1 := if lowers then { s with outstanding := s.outstanding - 1 } else s
  match b.verdict with
  | .pass k f => sortARx k f s1
  | .fail why =>
    let s2 := s1.countRx .a (·.countFailure why)
    if lowers then s2.grantData else s2

/-- END on A-receive (R146, R150). -/
def aReceiveFrameEnd (s : State) : State := frameEnd .a closeARx s

/-- The address that the agent takes from an ENUMERATE: 63 is taken as 0 (R164). -/
def takenAddress (a : Address) : Address := if a = 63 then 0 else a

/-- The address of the ENUMERATE for upstream: one more, or 0 where the part's address is 0 or one more would be 63 (R164). -/
def nextAddress (a : Address) : Address := if a = 0 ∨ a = 62 then 0 else a + 1

/-- The agent's taking of an ENUMERATE, in one event (R164); a commit in progress goes on, and that it was crossed is noted (R110). -/
def enumerated (carried : Address) (s : State) : State :=
  let a := takenAddress carried
  let s1 := { s with nodeAddress := a, cache := [], commitEnumerated := s.deferredCommit.isSome }
  let s2 := if a = 0 then s1 else s1.placeReport
  s2.offerForward (enumerateFrame (nextAddress a))

/-- The sorting of a good frame on C-receive (R153). -/
def sortCRx (k : FrameKind) (f : Frame) (s : State) : State :=
  match k with
  | .request =>
    if f.request.dest = broadcastAddress then (s.offerRequest f.request).offerForward f
    else if s.nodeAddress ≠ 0 ∧ f.request.dest = s.nodeAddress then s.offerRequest f.request
    else s.offerForward f
  | .enumerate => enumerated f.enumerateAddress s
  | .data | .response | .notice | .report => s.countRx .c RxCounters.countWrongDirection

/-- The close of a frame on C-receive by END (R148, R153). -/
def closeCRx (b : Assembly) (s : State) : State :=
  match b.verdict with
  | .pass k f => sortCRx k f s
  | .fail why => s.countRx .c (·.countFailure why)

/-- END on C-receive (R146, R153). -/
def cReceiveFrameEnd (s : State) : State := frameEnd .c closeCRx s

/-- Whether the frame being gathered on an UP C-receive is an ENUMERATE that passes the checks and carries the address. -/
def enumerateWaits (a : Address) (s : State) : Bool :=
  s.cRx.state == .up &&
  match s.cRx.assembly with
  | some b =>
    match b.verdict with
    | .pass .enumerate f => f.enumerateAddress == a
    | _ => false
  | none => false

/-- The END on C-receive that closes a good ENUMERATE frame carrying address `a` (R164; log 4): the agent takes it as it
arrives.  No event where no such frame is being gathered (log 2). -/
def enumerate (a : Address) (s : State) : State :=
  if enumerateWaits a s then enumerated a { s with cRx := { s.cRx with invalidCount := 0, assembly := none } } else s

/-! ## Credit symbols received (R146, R155) -/

/-- A credit symbol on an UP lane: it closes a frame being gathered as malformed; on C-receive it then acts, on A-receive it is
disregarded (R146, R150, R155). -/
def creditSymbol (side : Side) (act : State → State) (s : State) : State :=
  s.onValidSymbol side fun s1 =>
    let s2 := s1.closeMalformed side
    match side with
    | .a => s2
    | .c => act s2

/-- CREDIT_DATA raises the data counter, which stays at 15 (R155). -/
def creditDataReceived (side : Side) (s : State) : State :=
  creditSymbol side (fun t => { t with dataCredits := min Config.maxDataCredits (t.dataCredits + 1) }) s

/-- CREDIT_CONTROL raises the control counter, which stays at 7 (R155). -/
def creditControlReceived (side : Side) (s : State) : State :=
  creditSymbol side (fun t => { t with controlCredits := min Config.maxControlCredits (t.controlCredits + 1) }) s

/-- CREDIT_RESET sets both counters to 0 (R155). -/
def creditResetReceived (side : Side) (s : State) : State :=
  creditSymbol side (fun t => { t with dataCredits := 0, controlCredits := 0 }) s

/-! ## The meanings -/

def execSymbolLock (lane : Side) (s : State) : Host.Outcome State Fault Refusal := .next (symbolLock lane s)
def execLossOfLock (lane : Side) (s : State) : Host.Outcome State Fault Refusal := .next (lossOfLock lane s)
def execIdleSymbol (lane : Side) (s : State) : Host.Outcome State Fault Refusal := .next (idleSymbol lane s)
def execInvalidSymbol (lane : Side) (s : State) : Host.Outcome State Fault Refusal := .next (invalidSymbol lane s)
def execStartSymbol (lane : Side) (s : State) : Host.Outcome State Fault Refusal := .next (startSymbol lane s)
def execDataWordSymbol (lane : Side) (word : Word) (s : State) : Host.Outcome State Fault Refusal :=
  .next (dataWordSymbol lane word s)
def execAReceiveFrameEnd (s : State) : Host.Outcome State Fault Refusal := .next (aReceiveFrameEnd s)
def execCReceiveFrameEnd (s : State) : Host.Outcome State Fault Refusal := .next (cReceiveFrameEnd s)
def execEnumerate (address : Address) (s : State) : Host.Outcome State Fault Refusal := .next (enumerate address s)
def execCreditDataReceived (lane : Side) (s : State) : Host.Outcome State Fault Refusal :=
  .next (creditDataReceived lane s)
def execCreditControlReceived (lane : Side) (s : State) : Host.Outcome State Fault Refusal :=
  .next (creditControlReceived lane s)
def execCreditResetReceived (lane : Side) (s : State) : Host.Outcome State Fault Refusal :=
  .next (creditResetReceived lane s)

end Sys2Proof.Machine
end

