-- ==== Sys2Proof/Machine/Transmit.lean ====
section
/-! DEFINITION. The transmit lanes: the egress arbiter, the frames and symbols of A-transmit, and the answer list (sections 8.4
to 8.6, R170). -/

namespace Sys2Proof.Machine

/-! ## The egress arbiter (R155, R156, R157) -/

/-- The sources of the egress arbiter, in its order (R157). -/
inductive EgressSource where
  | responses | notice | transit | output
deriving DecidableEq, Repr

/-- The first eligible source: one that holds a frame while the counter of the frame's kind is at least 1 (R157). -/
def egressSource (s : State) : Option EgressSource :=
  if 0 < s.controlCredits ∧ s.responses ≠ [] then some .responses
  else if 0 < s.controlCredits ∧ s.exc.slot.isSome then some .notice
  else if 0 < s.controlCredits ∧ s.transit ≠ [] then some .transit
  else if 0 < s.dataCredits ∧ s.outQueue ≠ [] then some .output
  else none

/-- C-transmit begins to send a frame, with its CRC word (R146, R147). -/
def State.sendC (s : State) (words : List Word) : State := { s with cTx := .sending (withCrc words) }

/-- The head of the response queue is started with a control credit (R156, R170). -/
def startResponse (s : State) : State :=
  match s.responses with
  | f :: rest => { s.sendC f.words with responses := rest, controlCredits := s.controlCredits - 1 }
  | [] => s

/-- The notice in the slot is started with a control credit; its contents are taken now and the slot becomes empty (R138, R139). -/
def startNotice (s : State) : State :=
  match s.exc.slot with
  | some reason =>
    { s.sendC (noticeWords reason s.nodeAddress s.exc s.hold) with
      exc := { s.exc with slot := none }, controlCredits := s.controlCredits - 1 }
  | none => s

/-- The head of the transit FIFO is started with a control credit; the freed entry is granted upstream (R152, R159). -/
def startTransit (s : State) : State :=
  match s.transit with
  | f :: rest => { s.sendC f.words with transit := rest, controlCredits := s.controlCredits - 1 }.grantControl
  | [] => s

/-- The head of the output queue is started with a data credit; its entry becomes free (R57, R156). -/
def startOutput (s : State) : State :=
  match s.outQueue with
  | f :: rest => { s.sendC f.words with outQueue := rest, dataCredits := s.dataCredits - 1 }
  | [] => s

/-- With C-transmit IDLE, the arbiter starts the head frame of the first eligible source (R157). -/
def egressStart (s : State) : State :=
  match s.cTx with
  | .sending _ => s
  | .idle =>
    match egressSource s with
    | some .responses => startResponse s
    | some .notice => startNotice s
    | some .transit => startTransit s
    | some .output => startOutput s
    | none => s

/-- A transmit lane sends the END of its frame and returns to IDLE (R145, R157). -/
def transmitFrameEnd (side : Side) (s : State) : State :=
  match side with
  | .a => { s with aTx := .idle }
  | .c => { s with cTx := .idle }

/-! ## A-transmit (R154, R159) -/

/-- An IDLE A-transmit sends the credit symbol at the head of the pending grant list and removes it (R159). -/
def aTransmitCreditSymbol (s : State) : State :=
  match s.aTx, s.grants with
  | .idle, g :: rest => { s with grants := rest, lastCreditSent := some g }
  | _, _ => s

/-- An IDLE A-transmit with no pending credit symbol starts the head of the forward FIFO, whose entry becomes free (R154). -/
def forwardFifoStart (s : State) : State :=
  match s.aTx, s.grants, s.forward with
  | .idle, [], f :: rest => { s with forward := rest, aTx := .sending (withCrc f.words) }
  | _, _, _ => s

/-! ## The answer list (R170) -/

/-- A free response queue entry goes to the head of the answer list, which enters the response queue (R170). -/
def answerListEntry (s : State) : State :=
  match s.answers with
  | f :: rest =>
    if s.responses.length < Config.responseEntries then { s with answers := rest, responses := s.responses ++ [f] } else s
  | [] => s

/-! ## The meanings -/

def execEgressStart (s : State) : Host.Outcome State Fault Refusal := .next (egressStart s)
def execTransmitFrameEnd (lane : Side) (s : State) : Host.Outcome State Fault Refusal := .next (transmitFrameEnd lane s)
def execATransmitCreditSymbol (s : State) : Host.Outcome State Fault Refusal := .next (aTransmitCreditSymbol s)
def execForwardFifoStart (s : State) : Host.Outcome State Fault Refusal := .next (forwardFifoStart s)
def execAnswerListEntry (s : State) : Host.Outcome State Fault Refusal := .next (answerListEntry s)

end Sys2Proof.Machine
end

