-- ==== Sys2Proof/Machine/Dispatch.lean ====
section
/-! DEFINITION. One arm per row of spec/opcode_table.json, each a direct call of its meaning. -/

namespace Sys2Proof.Machine

/-- The effect of an event on everything but the queue of events. -/
def exec (i : Instr) (s : State) : Host.Outcome State Fault Refusal :=
  match i with
  | .deviceReset => Sys2Proof.Machine.execDeviceReset s
  | .symbolLock lane => Sys2Proof.Machine.execSymbolLock lane s
  | .lossOfLock lane => Sys2Proof.Machine.execLossOfLock lane s
  | .idleSymbol lane => Sys2Proof.Machine.execIdleSymbol lane s
  | .invalidSymbol lane => Sys2Proof.Machine.execInvalidSymbol lane s
  | .startSymbol lane => Sys2Proof.Machine.execStartSymbol lane s
  | .dataWordSymbol lane word => Sys2Proof.Machine.execDataWordSymbol lane word s
  | .aReceiveFrameEnd => Sys2Proof.Machine.execAReceiveFrameEnd s
  | .cReceiveFrameEnd => Sys2Proof.Machine.execCReceiveFrameEnd s
  | .enumerate address => Sys2Proof.Machine.execEnumerate address s
  | .creditDataReceived lane => Sys2Proof.Machine.execCreditDataReceived lane s
  | .creditControlReceived lane => Sys2Proof.Machine.execCreditControlReceived lane s
  | .creditResetReceived lane => Sys2Proof.Machine.execCreditResetReceived lane s
  | .egressStart => Sys2Proof.Machine.execEgressStart s
  | .transmitFrameEnd lane => Sys2Proof.Machine.execTransmitFrameEnd lane s
  | .aTransmitCreditSymbol => Sys2Proof.Machine.execATransmitCreditSymbol s
  | .forwardFifoStart => Sys2Proof.Machine.execForwardFifoStart s
  | .answerListEntry => Sys2Proof.Machine.execAnswerListEntry s
  | .engineTake => Sys2Proof.Machine.execEngineTake s
  | .slotConversion => Sys2Proof.Machine.execSlotConversion s
  | .conversionCompletion => Sys2Proof.Machine.execConversionCompletion s
  | .holdTimerExpiry => Sys2Proof.Machine.execHoldTimerExpiry s
  | .releaseEntry => Sys2Proof.Machine.execReleaseEntry s
  | .coalescingTimerExpiry => Sys2Proof.Machine.execCoalescingTimerExpiry s
  | .reminderTimerExpiry => Sys2Proof.Machine.execReminderTimerExpiry s
  | .validationFailure => Sys2Proof.Machine.execValidationFailure s
  | .compilationEnd => Sys2Proof.Machine.execCompilationEnd s
  | .swap => Sys2Proof.Machine.execSwap s
  | .identify rq => Sys2Proof.Machine.execIdentify rq s
  | .readStatus rq => Sys2Proof.Machine.execReadStatus rq s
  | .writeChannel rq => Sys2Proof.Machine.execWriteChannel rq s
  | .readChannel rq => Sys2Proof.Machine.execReadChannel rq s
  | .writeStream rq => Sys2Proof.Machine.execWriteStream rq s
  | .readStream rq => Sys2Proof.Machine.execReadStream rq s
  | .writeClass rq => Sys2Proof.Machine.execWriteClass rq s
  | .readClass rq => Sys2Proof.Machine.execReadClass rq s
  | .copyActive rq => Sys2Proof.Machine.execCopyActive rq s
  | .commit rq => Sys2Proof.Machine.execCommit rq s
  | .readLayout rq => Sys2Proof.Machine.execReadLayout rq s
  | .fetchExceptions rq => Sys2Proof.Machine.execFetchExceptions rq s
  | .ackExceptions rq => Sys2Proof.Machine.execAckExceptions rq s
  | .readSticky rq => Sys2Proof.Machine.execReadSticky rq s
  | .clearSticky rq => Sys2Proof.Machine.execClearSticky rq s
  | .releaseHoldForward rq => Sys2Proof.Machine.execReleaseHoldForward rq s
  | .releaseHoldDiscard rq => Sys2Proof.Machine.execReleaseHoldDiscard rq s
  | .readCounters rq => Sys2Proof.Machine.execReadCounters rq s
  | .clearCounters rq => Sys2Proof.Machine.execClearCounters rq s
  | .setParameter rq => Sys2Proof.Machine.execSetParameter rq s
  | .readParameter rq => Sys2Proof.Machine.execReadParameter rq s
  | .resetPipeline rq => Sys2Proof.Machine.execResetPipeline rq s
  | .resetExceptions rq => Sys2Proof.Machine.execResetExceptions rq s
  | .resetAll rq => Sys2Proof.Machine.execResetAll rq s
  | .undefinedCommand rq => Sys2Proof.Machine.execUndefinedCommand rq s

end Sys2Proof.Machine
end

