-- ==== Sys2Proof/Safety.lean ====
section
/-! DEFINITION. What counts as a safe state of the part, rule by rule, and the words in which statements speak of a request
that the agent takes. -/

namespace Sys2Proof.Machine

/-! ## Bounds -/

/-- Every queue, FIFO, buffer and credit counter lies within its capacity, and the node address in 0-62
(R57, R127, R151, R152, R154, R155, R163, R167, R170, R172). -/
structure WithinCapacity (s : State) : Prop where
  ingress : s.ingress.length ≤ 8
  transit : s.transit.length ≤ 4
  forward : s.forward.length ≤ 4
  output : s.outQueue.length + s.outReserved ≤ 4
  requests : s.requests.length ≤ 4
  responses : s.responses.length ≤ 2
  cache : s.cache.length ≤ 4
  exceptions : s.exc.queue.length ≤ 32
  dataCredits : s.dataCredits ≤ 15
  controlCredits : s.controlCredits ≤ 7
  address : s.nodeAddress ≠ 63

/-- The count of outstanding upstream data credits never exceeds the free ingress entries, and the pending grant list keeps its
limits (R158, R159). -/
structure CreditsHonest (s : State) : Prop where
  room : s.outstanding + s.ingress.length ≤ 8
  data : s.pendingGrants .data ≤ 8
  control : s.pendingGrants .control ≤ 4
  restart : s.pendingGrants .reset ≤ 1

/-- How many of the two deferred requests wait (R171). -/
def State.deferredCount (s : State) : Nat :=
  (if s.deferredCommit.isSome then 1 else 0) + (if s.deferredRelease.isSome then 1 else 0)

/-- The answer list has room for the deferred answers still to come: with those that wait for their end, at most two answers
and one REPORT, so that it never holds more than 3 frames (R170). -/
structure AnswersBounded (s : State) : Prop where
  answers : (s.answers.filter (!·.isReport)).length + s.deferredCount ≤ 2
  reports : (s.answers.filter (·.isReport)).length ≤ 1

/-- The parameters lie in their ranges and the timers within what started them (R115, R134, R135, R175). -/
structure TimersInRange (s : State) : Prop where
  interval : 1 ≤ s.params.coalesceInterval ∧ s.params.coalesceInterval ≤ 255
  threshold : 1 ≤ s.params.noticeThreshold ∧ s.params.noticeThreshold ≤ 32
  timeout : s.params.holdTimeout ≤ 1000
  coalescing : ∀ n, s.exc.coalescing = some n → n ≤ 255
  reminder : ∀ n, s.exc.reminder = some n → n ≤ 100
  hold : ∀ f n, s.hold = .held f (some n) → n ≤ 1000

/-! ## Agreement between blocks -/

/-- A hold that was released by request and whose frame still waits (R111). -/
def Hold.waitsByRequest : Hold → Bool
  | .releasing _ .request => true
  | .releasing _ .timeout => false
  | .held _ _ => false
  | .empty => false

/-- A COMMIT is deferred exactly while a commit is in progress, a RELEASE_HOLD exactly while a frame released by request waits,
pending layouts exist exactly in SWAP_PENDING, and only a commit in progress is noted as crossed by an ENUMERATE
(R94, R103, R110, R111, R171). -/
structure DeferredAgree (s : State) : Prop where
  commit : s.deferredCommit.isSome ↔ s.phase ≠ .idle
  enumerated : s.commitEnumerated = true → s.deferredCommit.isSome
  release : s.deferredRelease.isSome ↔ s.hold.waitsByRequest
  pendingLayouts : s.pendingLayouts.isSome ↔ s.phase = .swapPending

/-- A frame under conversion stands at the head of the ingress buffer, carries the generation of the tables in force, and its
payload has the length of its stream's layout (R58, R60, R66). -/
structure EngineConsistent (s : State) : Prop where
  frame : ∀ c, s.engine = .converting c → s.ingress ≠ []
  generation : ∀ c, s.engine = .converting c → c.generation = s.generation
  payload : ∀ c, s.engine = .converting c → c.payload.length = ((s.layouts.get c.stream).getD ⟨[], 0⟩).length

/-- The active layouts are those of the active bank, which passes validation, and in SWAP_PENDING the pending layouts are
those of the shadow bank, which passed it (R86, R97, R103, R105). -/
structure TablesCompiled (s : State) : Prop where
  layouts : s.layouts = compileLayouts s.active
  sound : validate s.active = none
  pendingLayouts : s.phase = .swapPending → s.pendingLayouts = some (compileLayouts s.shadow)
  pendingSound : s.phase = .swapPending → validate s.shadow = none

/-! ## Exception unit -/

/-- The records of the queue carry consecutive sequence numbers, the newest one less than the next (R127). -/
structure RecordsConsecutive (x : ExceptionUnit) : Prop where
  consecutive : ∀ i (h : i + 1 < x.queue.length), x.queue[i + 1].seq = x.queue[i].seq + 1
  newest : ∀ r, x.queue.getLast? = some r → r.seq + 1 = x.nextSeq

/-- Each notice state runs its own timer and no other, and a state other than QUIET has records to announce
(Table 7-3, R137). -/
structure NoticeConsistent (x : ExceptionUnit) : Prop where
  gathering : x.notice = .gathering ↔ x.coalescing.isSome
  announced : x.notice = .announced ↔ x.reminder.isSome
  count : x.reminderCount ≤ 3 ∧ (x.notice = .announced → x.reminderCount < 3)
  records : x.notice ≠ .quiet → x.queue ≠ []

/-! ## Tag cache -/

/-- The cache holds at most one entry for each tag, and each entry pairs a request with the response produced for it, whose
status is neither BUSY nor IN_PROGRESS (R172).  Only a COMMIT is deferred as one, and only the entry of a COMMIT is noted as crossed
by an ENUMERATE (R110, R171; log 24). -/
structure CacheSound (s : State) : Prop where
  oneEntry : (s.cache.map fun e => e.request.tag).Nodup
  paired : ∀ e ∈ s.cache, e.response.tag = e.request.tag ∧ e.response.code = e.request.code
  status : ∀ e ∈ s.cache, e.response.status ≠ .busy ∧ e.response.status ≠ .inProgress
  deferred : ∀ d, s.deferredCommit = some d → d.code = 0x0A
  crossed : ∀ e ∈ s.cache, e.crossed = true → e.request.code = 0x0A

/-! ## Whole frames on a lane -/

/-- The events of a list one after another (log 1). -/
def run : List Instr → State → Host.Outcome State Fault Refusal
  | [], s => .next s
  | c :: rest, s =>
    match exec c s with
    | .next t => run rest t
    | .fault f => .fault f
    | .refused r => .refused r

/-- The words of a frame of a kind: the kind code and the payload word count of its first word agree with its length, which is
one that the kind admits (Tables 11-1, 8-2; R148). -/
structure IsFrame (k : FrameKind) (words : List Word) : Prop where
  kind : ∃ w rest, words = w :: rest ∧ kindOfWord w = some k ∧ words.length = k.headerWords + payloadCount w
  maximum : words.length ≤ k.headerWords + k.maxPayload
  fixed : k.fixedLength = true → words.length = k.headerWords + k.maxPayload
  sample : k = .data → conditionedFlag (words.headD 0) = false → k.headerWords < words.length

/-! ## The part after a device reset -/

/-- The reset values that the manual gives (R30, R51, R54, R57, R58, R75, R86, R90, R93, R94, R111, R144, R145, R151, R152, R154,
R155, R158, R159, R163, R167, R170, R172, R175, R180, R184; Figure 7-1). -/
structure Fresh (t : State) : Prop where
  lanes : t.aRx = ⟨.down, 0, 0, none⟩ ∧ t.cRx = ⟨.down, 0, 0, none⟩ ∧ t.aTx = .idle ∧ t.cTx = .idle
  credits : t.dataCredits = 0 ∧ t.controlCredits = 0 ∧ t.outstanding = 0 ∧ t.grants = []
  queues : t.ingress = [] ∧ t.transit = [] ∧ t.forward = [] ∧ t.outQueue = [] ∧ t.outReserved = 0
  agent : t.nodeAddress = 0 ∧ t.requests = [] ∧ t.responses = [] ∧ t.answers = [] ∧ t.deferredCommit = none ∧
    t.commitEnumerated = false ∧ t.deferredRelease = none ∧ t.cache = []
  parameters : t.params = ⟨5, 8, 50, .forward⟩
  channels : ∀ i, t.active.channel i =
    { kind := .disabled, stream := 0, position := 0, inputFormat := .i32, inputNull := none,
      gain := 0x3FF8000000000000#64, offset := 0, mode := .plain, companion := none, outputFormat := .i32,
      rounding := .round, outputNull := none, outputClass := 0, overflow := .zero, underflow := .zero, range := .zero,
      null := .zero, report := .first }
  streams : ∀ i : Fin 8, t.active.stream i = ⟨false, BitVec.ofNat 8 i, BitVec.ofNat 8 i, 1⟩
  classes : ∀ i : Fin 8, t.active.classRecord i = ⟨.one, 96, i⟩
  banks : t.shadow = t.active
  compiler : (∀ i : Fin 8, t.layouts.get i = none) ∧ t.pendingLayouts = none ∧ t.generation = 0 ∧ t.phase = .idle
  engine : t.engine = .idle ∧ ∀ i : Fin 8, t.runtime.get i = ⟨0, false, 0, false⟩
  sticky : ∀ i : Fin 128, t.sticky.get i = ⟨false, false, false, false⟩
  hold : t.hold = .empty
  exceptions : t.exc = ⟨[], 0, 0, false, .quiet, none, none, 0, none⟩
  laneCounters : t.laneCounters = ⟨⟨0, 0, 0, 0, 0, 0⟩, ⟨0, 0, 0, 0, 0, 0⟩, 0, 0, 0⟩
  streamCounters : ∀ i : Fin 8, t.engineCounters.streams.get i = ⟨0, 0, 0⟩
  otherCounters : t.engineCounters.unmatchedForwarded = 0 ∧ t.engineCounters.unmatchedDiscarded = 0 ∧
    t.engineCounters.conditionedForwarded = 0 ∧ t.holdCounters = ⟨0, 0, 0, 0⟩ ∧ t.requestDrops = 0 ∧ t.replays = 0

/-! ## A request that the agent takes -/

/-- The agent may take `rq` from the head of the request queue, leaving `rest`: the three conditions of R168 hold. -/
structure Ready (s : State) (rq : Request) (rest : List Request) : Prop where
  front : s.requests = rq :: rest
  room : s.responses.length < 2
  noAnswers : s.answers = []

/-- The agent takes `rq`, and neither the tag of a deferred request nor a cache entry settles it (R168, first two tests).  No
cache entry waits for the clearing of R110: a state with such an entry takes requests as the state without it does
(TagTestsComeFirst; log 24). -/
structure Untagged (s : State) (rq : Request) (rest : List Request) : Prop extends Ready s rq rest where
  commitTag : ∀ d, s.deferredCommit = some d → d.tag ≠ rq.tag
  releaseTag : ∀ d, s.deferredRelease = some d → d.tag ≠ rq.tag
  notCached : ∀ e ∈ s.cache, e.request ≠ rq
  cleared : ∀ e ∈ s.cache, e.crossed = false

/-- The agent takes `rq` and reaches the command's own tests: a broadcast is of an admitted command (R168, R174). -/
structure Takes (s : State) (rq : Request) (rest : List Request) : Prop extends Untagged s rq rest where
  admitted : rq.dest = 63 → broadcastAdmitted rq.code = true

/-- The state `t` with the request taken and answered: `rest` is what the request queue keeps, the response carries the node
address of `t`, the tag and the command code, and it enters the tag cache unless its status is BUSY or IN_PROGRESS
(R168, R169, R170, R172). -/
def State.answered (t : State) (rq : Request) (rest : List Request) (st : Status) (data : List Word) : State :=
  let response : Response := ⟨t.nodeAddress, rq.tag, rq.code, st, data⟩
  { t with
    requests := rest
    responses := t.responses ++ [.response response]
    cache := if st = .busy ∨ st = .inProgress then t.cache else cacheInsert t.cache ⟨rq, response, false⟩ }

end Sys2Proof.Machine
end

