-- ==== Sys2Proof/WellFormed.lean ====
section
/-! DEFINITION. Well-formed commands: the request of a request row carries the row's command code (Table 11-5), at most 32
operand words (Table 11-1), and no operand code that belongs to a neighbouring row. -/

namespace Sys2Proof

open Machine

/-- Whether the request may stand in a REQUEST frame: 0-32 operand words (Table 11-1). -/
def requestFits (rq : Request) : Bool := decide (rq.operands.length ≤ 32)

/-- Whether a command is well formed.  Lanes, words and addresses have no ill-formed value: their types hold exactly
the manual's values. -/
def Instr.wellFormed : Instr → Bool
  | .deviceReset | .aReceiveFrameEnd | .cReceiveFrameEnd | .egressStart | .aTransmitCreditSymbol
  | .forwardFifoStart | .answerListEntry | .engineTake | .slotConversion | .conversionCompletion
  | .holdTimerExpiry | .releaseEntry | .coalescingTimerExpiry | .reminderTimerExpiry
  | .validationFailure | .compilationEnd | .swap => true
  | .symbolLock _ | .lossOfLock _ | .idleSymbol _ | .invalidSymbol _ | .startSymbol _
  | .dataWordSymbol _ _ | .enumerate _ | .creditDataReceived _ | .creditControlReceived _
  | .creditResetReceived _ | .transmitFrameEnd _ => true
  | .identify rq           => requestFits rq && rq.code == CommandCode.identify
  | .readStatus rq         => requestFits rq && rq.code == CommandCode.readStatus
  | .writeChannel rq       => requestFits rq && rq.code == CommandCode.writeChannel
  | .readChannel rq        => requestFits rq && rq.code == CommandCode.readChannel
  | .writeStream rq        => requestFits rq && rq.code == CommandCode.writeStream
  | .readStream rq         => requestFits rq && rq.code == CommandCode.readStream
  | .writeClass rq         => requestFits rq && rq.code == CommandCode.writeClass
  | .readClass rq          => requestFits rq && rq.code == CommandCode.readClass
  | .copyActive rq         => requestFits rq && rq.code == CommandCode.copyActive
  | .commit rq             => requestFits rq && rq.code == CommandCode.commit
  | .readLayout rq         => requestFits rq && rq.code == CommandCode.readLayout
  | .fetchExceptions rq    => requestFits rq && rq.code == CommandCode.fetchExceptions
  | .ackExceptions rq      => requestFits rq && rq.code == CommandCode.ackExceptions
  | .readSticky rq         => requestFits rq && rq.code == CommandCode.readSticky
  | .clearSticky rq        => requestFits rq && rq.code == CommandCode.clearSticky
  | .releaseHoldForward rq => requestFits rq && isRelease ReleaseCode.discard rq
  | .releaseHoldDiscard rq => requestFits rq && isRelease ReleaseCode.forward rq
  | .readCounters rq       => requestFits rq && rq.code == CommandCode.readCounters
  | .clearCounters rq      => requestFits rq && rq.code == CommandCode.clearCounters
  | .setParameter rq       => requestFits rq && rq.code == CommandCode.setParameter
  | .readParameter rq      => requestFits rq && rq.code == CommandCode.readParameter
  | .resetPipeline rq      => requestFits rq && isReset ScopeCode.exceptions ScopeCode.all rq
  | .resetExceptions rq    => requestFits rq && isReset ScopeCode.pipeline ScopeCode.all rq
  | .resetAll rq           => requestFits rq && isReset ScopeCode.pipeline ScopeCode.exceptions rq
  | .undefinedCommand rq   => requestFits rq && !commandDefined rq.code

/-- The request of a request row, none for every other command. -/
def Instr.request? : Instr → Option Request
  | .deviceReset | .aReceiveFrameEnd | .cReceiveFrameEnd | .egressStart | .aTransmitCreditSymbol
  | .forwardFifoStart | .answerListEntry | .engineTake | .slotConversion | .conversionCompletion
  | .holdTimerExpiry | .releaseEntry | .coalescingTimerExpiry | .reminderTimerExpiry
  | .validationFailure | .compilationEnd | .swap => none
  | .symbolLock _ | .lossOfLock _ | .idleSymbol _ | .invalidSymbol _ | .startSymbol _
  | .dataWordSymbol _ _ | .enumerate _ | .creditDataReceived _ | .creditControlReceived _
  | .creditResetReceived _ | .transmitFrameEnd _ => none
  | .identify rq | .readStatus rq | .writeChannel rq | .readChannel rq | .writeStream rq | .readStream rq
  | .writeClass rq | .readClass rq | .copyActive rq | .commit rq | .readLayout rq | .fetchExceptions rq
  | .ackExceptions rq | .readSticky rq | .clearSticky rq | .releaseHoldForward rq | .releaseHoldDiscard rq
  | .readCounters rq | .clearCounters rq | .setParameter rq | .readParameter rq | .resetPipeline rq
  | .resetExceptions rq | .resetAll rq | .undefinedCommand rq => some rq

end Sys2Proof
end

