-- ==== Sys2Proof/Certificates/Slice0/Obligations.lean ====
section
/-! DEFINITION. The statements for the provers. -/

open Sys2Proof Sys2Proof.Machine

/-! ## The step, and the device reset -/

/-- A step is the command at the front of the queue, on the state with the rest of the queue (log 1). -/
def Obligations.StepRunsFront : Prop :=
  ∀ (c : Instr) (s : State), step { s with pending := c :: s.pending } = exec c s

/-- With no command waiting, one millisecond passes (the model's choice, log 5): each running timer that has more than one left
counts it, and those with at most one left then expire as their own rows say, in the order reminder, coalescing, hold; nothing
else changes. -/
def Obligations.IdleStepIsOneMillisecond : Prop :=
  ∀ s : State, s.pending = [] →
    let due (t : Timer) : Bool :=
      match t with
      | some n => decide (n ≤ 1)
      | none => false
    let counted (t : Timer) : Timer := if due t then t else t.map (· - 1)
    let reminders : List Instr := if due s.exc.reminder then [.reminderTimerExpiry] else []
    let coalescings : List Instr := if due s.exc.coalescing then [.coalescingTimerExpiry] else []
    let holds : List Instr :=
      match s.hold with
      | .held _ t => if due t then [.holdTimerExpiry] else []
      | .releasing _ _ => []
      | .empty => []
    step s = run (reminders ++ coalescings ++ holds) { s with
        exc := { s.exc with coalescing := counted s.exc.coalescing, reminder := counted s.exc.reminder }
        hold := match s.hold with
          | .held f t => .held f (counted t)
          | .releasing f r => .releasing f r
          | .empty => .empty } ∧
    ((∀ n, s.exc.coalescing = some n → 1 < n) → (∀ n, s.exc.reminder = some n → 1 < n) →
      (∀ f n, s.hold = .held f (some n) → 1 < n) →
      step s = .next { s with
        exc := { s.exc with coalescing := s.exc.coalescing.map (· - 1), reminder := s.exc.reminder.map (· - 1) }
        hold := match s.hold with
          | .held f t => .held f (t.map (· - 1))
          | .releasing f r => .releasing f r
          | .empty => .empty }) ∧
    (s.exc.notice = .gathering → s.exc.coalescing = some 1 → s.exc.reminder = none → (∀ f n, s.hold ≠ .held f (some n)) →
      step s = exec .coalescingTimerExpiry s) ∧
    (s.exc.notice = .announced → s.exc.reminder = some 1 → s.exc.coalescing = none → (∀ f n, s.hold ≠ .held f (some n)) →
      step s = exec .reminderTimerExpiry s) ∧
    (∀ f, s.hold = .held f (some 1) → s.exc.coalescing = none → s.exc.reminder = none →
      step s = exec .holdTimerExpiry s)

/-- After a device reset every block holds its device reset value (R180 and the rules it gathers); the model's own queue of
events stays (log 16). -/
def Obligations.DeviceResetIsFresh : Prop :=
  Fresh State.reset ∧ ∀ s : State, ∃ t, exec .deviceReset s = .next t ∧ Fresh t ∧ t.pending = s.pending

/-! ## Receive lanes -/

/-- Symbol lock and loss of lock (Table 8-1, R149): a DOWN lane becomes SYNCING with IDLE count 0; a SYNCING lane becomes DOWN; an
UP lane becomes DOWN, counted, its partial frame dropped and counted as truncated, the credits of its side cleared.  An event that
cannot arise in a state leaves it (log 2).  Read from the manual by inference, and not stated by it (log 17): a loss of lock in
SYNCING clears the credits of the side too, and a lane that goes DOWN keeps its IDLE count and its invalid count.  The operations
in which the statements on lanes speak read and replace the lane of a side and change its counters. -/
def Obligations.LockAndLoss : Prop :=
  ∀ s : State,
    (s.rx .a = s.aRx ∧ s.rx .c = s.cRx ∧
      (∀ r, s.setRx .a r = { s with aRx := r } ∧ s.setRx .c r = { s with cRx := r }) ∧
      ∀ count, s.countRx .a count = { s with laneCounters := { s.laneCounters with a := count s.laneCounters.a } } ∧
        s.countRx .c count = { s with laneCounters := { s.laneCounters with c := count s.laneCounters.c } }) ∧
    (∀ side, exec (.symbolLock side) s = .next
      (if (s.rx side).state = .down then s.setRx side { s.rx side with state := .syncing, idleCount := 0 } else s)) ∧
    (∀ side, (s.rx side).state = .down → exec (.lossOfLock side) s = .next s) ∧
    (s.aRx.state = .syncing → exec (.lossOfLock .a) s = .next
      { s with aRx := { s.aRx with state := .down }, outstanding := 0, grants := [] }) ∧
    (s.cRx.state = .syncing → exec (.lossOfLock .c) s = .next
      { s with cRx := { s.cRx with state := .down }, dataCredits := 0, controlCredits := 0 }) ∧
    (s.aRx.state = .up → exec (.lossOfLock .a) s = .next
      { s with
        aRx := { s.aRx with state := .down, assembly := none }
        laneCounters := { s.laneCounters with a :=
          { s.laneCounters.a with
            laneDowns := satInc s.laneCounters.a.laneDowns
            truncated := if s.aRx.assembly = none then s.laneCounters.a.truncated else satInc s.laneCounters.a.truncated } }
        outstanding := 0, grants := [] }) ∧
    (s.cRx.state = .up → exec (.lossOfLock .c) s = .next
      { s with
        cRx := { s.cRx with state := .down, assembly := none }
        laneCounters := { s.laneCounters with c :=
          { s.laneCounters.c with
            laneDowns := satInc s.laneCounters.c.laneDowns
            truncated := if s.cRx.assembly = none then s.laneCounters.c.truncated else satInc s.laneCounters.c.truncated } }
        dataCredits := 0, controlCredits := 0 })

/-- IDLE symbols (R144, R145, R146, R160): counted in SYNCING, the sixteenth making the lane UP, on A-receive with the credit
restart; in UP an IDLE sets the invalid count to 0 and closes a frame being gathered as malformed; in DOWN nothing. -/
def Obligations.IdleRun : Prop :=
  ∀ s : State,
    (∀ side, (s.rx side).state = .down → exec (.idleSymbol side) s = .next s) ∧
    (∀ side, (s.rx side).state = .syncing → (s.rx side).idleCount < 15 →
      exec (.idleSymbol side) s = .next (s.setRx side { s.rx side with idleCount := (s.rx side).idleCount + 1 })) ∧
    (s.cRx.state = .syncing → s.cRx.idleCount = 15 →
      exec (.idleSymbol .c) s = .next { s with cRx := { s.cRx with state := .up, idleCount := 16, invalidCount := 0 } }) ∧
    (s.aRx.state = .syncing → s.aRx.idleCount = 15 →
      exec (.idleSymbol .a) s = .next { s with
        aRx := { s.aRx with state := .up, idleCount := 16, invalidCount := 0 }
        grants := .reset :: (List.replicate (8 - s.ingress.length) .data ++ List.replicate (4 - s.transit.length) .control)
        outstanding := 8 - s.ingress.length }) ∧
    (∀ side, (s.rx side).state = .up → (s.rx side).assembly = none →
      exec (.idleSymbol side) s = .next (s.setRx side { s.rx side with invalidCount := 0 })) ∧
    (∀ side b, (s.rx side).state = .up → (s.rx side).assembly = some b →
      exec (.idleSymbol side) s = .next
        ((s.setRx side { s.rx side with invalidCount := 0, assembly := none }).countRx side
          fun k => { k with malformed := satInc k.malformed }))

/-- Invalid symbols (R144, R146): in SYNCING the IDLE count becomes 0; in UP up to the third of a run is counted and marks a frame
being gathered corrupt; the fourth makes the lane DOWN as a loss of lock does; in DOWN nothing.  That the lane keeps its counts
when it goes DOWN, the invalid count at 4, is read from the manual by inference, since Table 8-1 gives no count in DOWN
(log 17). -/
def Obligations.InvalidRun : Prop :=
  ∀ (side : Side) (s : State),
    ((s.rx side).state = .down → exec (.invalidSymbol side) s = .next s) ∧
    ((s.rx side).state = .syncing →
      exec (.invalidSymbol side) s = .next (s.setRx side { s.rx side with idleCount := 0 })) ∧
    ((s.rx side).state = .up → (s.rx side).invalidCount < 3 →
      exec (.invalidSymbol side) s = .next (s.setRx side
        { s.rx side with
          invalidCount := (s.rx side).invalidCount + 1
          assembly := (s.rx side).assembly.map fun b => { b with corrupt := true } })) ∧
    ((s.rx side).state = .up → (s.rx side).invalidCount = 3 →
      exec (.invalidSymbol side) s = exec (.lossOfLock side) (s.setRx side { s.rx side with invalidCount := 4 }))

/-- START and data words (R144, R145, R146): on an UP lane START opens a frame, closing one that was being gathered as malformed,
and a data word is stored in the open frame while the frame may grow (the limit, DroppedDataIsGranted), or counted as malformed
between frames; every valid symbol sets the invalid count to 0.  In SYNCING they set the IDLE count to 0, in DOWN nothing. -/
def Obligations.FramesOpenAndGather : Prop :=
  ∀ (side : Side) (s : State) (w : Word),
    ((s.rx side).state = .down →
      exec (.startSymbol side) s = .next s ∧ exec (.dataWordSymbol side w) s = .next s) ∧
    ((s.rx side).state = .syncing →
      exec (.startSymbol side) s = .next (s.setRx side { s.rx side with idleCount := 0 }) ∧
      exec (.dataWordSymbol side w) s = .next (s.setRx side { s.rx side with idleCount := 0 })) ∧
    ((s.rx side).state = .up → (s.rx side).assembly = none →
      exec (.startSymbol side) s = .next
        (s.setRx side { s.rx side with invalidCount := 0, assembly := some ⟨[], false, false⟩ }) ∧
      exec (.dataWordSymbol side w) s = .next
        ((s.setRx side { s.rx side with invalidCount := 0 }).countRx side
          fun k => { k with malformed := satInc k.malformed })) ∧
    (∀ b, (s.rx side).state = .up → (s.rx side).assembly = some b →
      exec (.startSymbol side) s = .next
        ((s.setRx side { s.rx side with invalidCount := 0, assembly := some ⟨[], false, false⟩ }).countRx side
          fun k => { k with malformed := satInc k.malformed }) ∧
      exec (.dataWordSymbol side w) s = .next
        (s.setRx side { s.rx side with
          invalidCount := 0
          assembly := some
            (if b.words.length < wordLimit b.words then { b with words := b.words ++ [w] } else { b with overrun := true }) }))

/-- A whole DATA frame that reaches an UP A-receive between frames, symbol by symbol and with its CRC word, enters a free ingress
entry and lowers the count of outstanding credits, and nothing else happens (R146, R147, R148, R150, R158).  The words of a DATA
frame are those whose first names the kind (code 1) and a payload word count of 0 to 64 that they have, 1 at least where the
conditioned flag is clear (Tables 11-1, 11-2, 8-2). -/
def Obligations.WholeDataFrameIsReceived : Prop :=
  (∀ words : List Word, IsFrame .data words ↔
    ∃ w rest, words = w :: rest ∧ w.extractLsb' 28 4 = 1 ∧ words.length = 4 + (w.extractLsb' 0 8).toNat ∧
      words.length ≤ 68 ∧ (w.getLsbD 27 = false → 4 < words.length)) ∧
  ∀ (s : State) (words : List Word), IsFrame .data words → s.aRx.state = .up → s.aRx.assembly = none →
    s.ingress.length < 8 →
    run (.startSymbol .a :: ((words ++ [crcOf words]).map (.dataWordSymbol .a) ++ [.aReceiveFrameEnd])) s =
      .next { s with
        aRx := { s.aRx with invalidCount := 0 }
        ingress := s.ingress ++ [⟨words⟩]
        outstanding := s.outstanding - 1 }

/-- A REQUEST frame addressed to the part that reaches an UP C-receive between frames, symbol by symbol and with its CRC word,
enters a free entry of the request queue with its destination, tag, command code and operand words (R146, R147, R148, R153;
Table 11-3). -/
def Obligations.WholeRequestIsReceived : Prop :=
  ∀ (s : State) (rq : Request), rq.operands.length ≤ 32 → rq.dest = s.nodeAddress → s.nodeAddress ≠ 0 →
    s.nodeAddress ≠ 63 → s.cRx.state = .up → s.cRx.assembly = none → s.requests.length < 4 →
    let words : List Word :=
      [2#4 ++ rq.dest ++ 0#6 ++ rq.tag ++ BitVec.ofNat 8 rq.operands.length, 0#24 ++ rq.code] ++ rq.operands
    run (.startSymbol .c :: ((words ++ [crcOf words]).map (.dataWordSymbol .c) ++ [.cReceiveFrameEnd])) s =
      .next { s with cRx := { s.cRx with invalidCount := 0 }, requests := s.requests ++ [rq] }

/-- The sorting of a frame that passes the checks on A-receive (R150, R151, R152, R158), and a stray END (R146); on a lane that is
not UP an END delimits no frame (R145). -/
def Obligations.AReceiveSorts : Prop :=
  ∀ s : State,
    (s.aRx.state = .down → exec .aReceiveFrameEnd s = .next s) ∧
    (s.aRx.state = .syncing → exec .aReceiveFrameEnd s = .next { s with aRx := { s.aRx with idleCount := 0 } }) ∧
    (s.aRx.state = .up → s.aRx.assembly = none → exec .aReceiveFrameEnd s = .next
      { s with
        aRx := { s.aRx with invalidCount := 0 }
        laneCounters := { s.laneCounters with a :=
          { s.laneCounters.a with malformed := satInc s.laneCounters.a.malformed } } }) ∧
    (∀ b k f, s.aRx.state = .up → s.aRx.assembly = some b → b.verdict = .pass k f →
      let u : State := { s with aRx := { s.aRx with invalidCount := 0, assembly := none } }
      (k = .data → s.ingress.length < 8 →
        exec .aReceiveFrameEnd s = .next { u with ingress := s.ingress ++ [f], outstanding := s.outstanding - 1 }) ∧
      (k = .data → 8 ≤ s.ingress.length →
        exec .aReceiveFrameEnd s = .next { u with
          outstanding := s.outstanding - 1
          laneCounters := { s.laneCounters with ingressOverflow := satInc s.laneCounters.ingressOverflow } }) ∧
      (k = .response ∨ k = .notice ∨ k = .report → s.transit.length < 4 →
        exec .aReceiveFrameEnd s = .next { u with transit := s.transit ++ [f] }) ∧
      (k = .response ∨ k = .notice ∨ k = .report → 4 ≤ s.transit.length →
        exec .aReceiveFrameEnd s = .next { u with
          laneCounters := { s.laneCounters with transitOverflow := satInc s.laneCounters.transitOverflow } }) ∧
      (k = .request ∨ k = .enumerate →
        exec .aReceiveFrameEnd s = .next { u with
          laneCounters := { s.laneCounters with a :=
            { s.laneCounters.a with wrongDirection := satInc s.laneCounters.a.wrongDirection } } }))

/-- The check value of R147, bit by bit; which closed frame fails which check of R148, in their order, and what passes, with the
words that the buffer stores before a further word makes the frame too long.  A frame that fails the checks on A-receive is
dropped and counted once; when its header shows DATA and its close lowered the count of outstanding credits, one CREDIT_DATA grant
answers it and the count stands as it was, the pending list having room (R158, R161; the room, log 9; the kind of the first word,
log 18). -/
def Obligations.DroppedDataIsGranted : Prop :=
  let check (words : List Word) : BitVec 16 :=
    (words.flatMap fun w => (List.range 32).map fun i => w.getLsbD (31 - i)).foldl
      (fun r bit => if r.getLsbD 15 != bit then (r <<< 1) ^^^ 0x1021#16 else r <<< 1) 0xFFFF#16
  let shown (words : List Word) : Option FrameKind :=
    match words with
    | [] => none
    | w :: _ =>
      match (w.extractLsb' 28 4).toNat with
      | 1 => some .data | 2 => some .request | 3 => some .response | 4 => some .notice | 5 => some .enumerate
      | 6 => some .report | _ => none
  let header (k : FrameKind) : Nat :=
    match k with
    | .data => 4 | .request => 2 | .response => 2 | .notice => 1 | .enumerate => 1 | .report => 1
  let most (k : FrameKind) : Nat :=
    match k with
    | .data => 64 | .request => 32 | .response => 96 | .notice => 3 | .enumerate => 1 | .report => 3
  (∀ words : List Word, crcOf words = 0#16 ++ check words ∧
    wordLimit words = match shown words with
      | some k => header k + most k + 1
      | none => 4 + 96 + 1) ∧
  (∀ b : Assembly,
    let count := ((b.words.headD 0).extractLsb' 0 8).toNat
    let tooLong : Prop := b.overrun = true ∨ ∃ k, shown b.words = some k ∧ most k < count
    let short : Prop :=
      b.words.length < (match shown b.words with
        | some k => header k
        | none => 1) + 1
    let crcError : Prop :=
      b.corrupt = true ∨ ∃ (before : List Word) (last : Word), b.words = before ++ [last] ∧ last ≠ 0#16 ++ check before
    let badContent (k : FrameKind) : Prop :=
      b.words.length ≠ header k + count + 1 ∨
      k = .data ∧ (b.words.headD 0).getLsbD 27 = false ∧ count = 0 ∨
      (k = .notice ∨ k = .enumerate ∨ k = .report) ∧ count ≠ most k
    b.shownKind = shown b.words ∧
    (tooLong → b.verdict = .fail .tooLong) ∧
    (¬ tooLong → short → b.verdict = .fail .malformed) ∧
    (¬ tooLong → ¬ short → crcError → b.verdict = .fail .crcError) ∧
    (¬ tooLong → ¬ short → ¬ crcError →
      (shown b.words = none → b.verdict = .fail .malformed) ∧
      ∀ k, shown b.words = some k →
        (badContent k → b.verdict = .fail .malformed) ∧
        (¬ badContent k → b.verdict = .pass k ⟨b.words.dropLast⟩))) ∧
  ∀ (s : State) (b : Assembly) (why : FrameFailure),
    s.aRx.state = .up → s.aRx.assembly = some b → b.verdict = .fail why →
    let u : State :=
      { s with
        aRx := { s.aRx with invalidCount := 0, assembly := none }
        laneCounters := { s.laneCounters with a := match why with
          | .tooLong => { s.laneCounters.a with tooLong := satInc s.laneCounters.a.tooLong }
          | .malformed => { s.laneCounters.a with malformed := satInc s.laneCounters.a.malformed }
          | .crcError => { s.laneCounters.a with crcErrors := satInc s.laneCounters.a.crcErrors } } }
    (b.shownKind = some .data → 0 < s.outstanding → s.pendingGrants .data < 8 →
      exec .aReceiveFrameEnd s = .next { u with grants := s.grants ++ [.data] }) ∧
    (b.shownKind = some .data → 0 < s.outstanding → 8 ≤ s.pendingGrants .data →
      exec .aReceiveFrameEnd s = .next { u with outstanding := s.outstanding - 1 }) ∧
    (b.shownKind ≠ some .data ∨ s.outstanding = 0 → exec .aReceiveFrameEnd s = .next u)

/-- The sorting on C-receive (R148, R153, R154): an addressed REQUEST enters the request queue or is forwarded, a broadcast does
both, each copy entering or being dropped and counted by its own queue; the kinds of the other direction are dropped and counted;
a frame that fails a check (which one, DroppedDataIsGranted) is dropped and counted.  An END between frames is counted as
malformed (R146); on a lane that is not UP an END delimits no frame (R145), and in SYNCING it sets the IDLE count to 0 (R144).
The request of a REQUEST frame has its fields at the bits of Table 11-3. -/
def Obligations.CReceiveSorts : Prop :=
  (∀ s : State,
    (s.cRx.state = .down → exec .cReceiveFrameEnd s = .next s) ∧
    (s.cRx.state = .syncing → exec .cReceiveFrameEnd s = .next { s with cRx := { s.cRx with idleCount := 0 } }) ∧
    (s.cRx.state = .up → s.cRx.assembly = none → exec .cReceiveFrameEnd s = .next
      { s with
        cRx := { s.cRx with invalidCount := 0 }
        laneCounters := { s.laneCounters with c :=
          { s.laneCounters.c with malformed := satInc s.laneCounters.c.malformed } } })) ∧
  (∀ f : Frame, f.request =
    { dest := (f.words.getD 0 0).extractLsb' 22 6, tag := (f.words.getD 0 0).extractLsb' 8 8
      code := (f.words.getD 1 0).extractLsb' 0 8, operands := f.words.drop 2 }) ∧
  ∀ (s : State) (b : Assembly), s.cRx.state = .up → s.cRx.assembly = some b →
    let u : State := { s with cRx := { s.cRx with invalidCount := 0, assembly := none } }
    let queued (rq : Request) (t : State) : State :=
      if s.requests.length < 4 then { t with requests := s.requests ++ [rq] }
      else { t with requestDrops := satInc s.requestDrops }
    let forwarded (f : Frame) (t : State) : State :=
      if s.forward.length < 4 then { t with forward := s.forward ++ [f] }
      else { t with laneCounters := { s.laneCounters with forwardOverflow := satInc s.laneCounters.forwardOverflow } }
    (∀ f, b.verdict = .pass .request f →
      (f.request.dest = 63 → exec .cReceiveFrameEnd s = .next (forwarded f (queued f.request u))) ∧
      (f.request.dest ≠ 63 → s.nodeAddress ≠ 0 → f.request.dest = s.nodeAddress →
        exec .cReceiveFrameEnd s = .next (queued f.request u)) ∧
      (f.request.dest ≠ 63 → (s.nodeAddress = 0 ∨ f.request.dest ≠ s.nodeAddress) →
        exec .cReceiveFrameEnd s = .next (forwarded f u))) ∧
    (∀ k f, b.verdict = .pass k f → k = .data ∨ k = .response ∨ k = .notice ∨ k = .report →
      exec .cReceiveFrameEnd s = .next { u with laneCounters := { s.laneCounters with c :=
        { s.laneCounters.c with wrongDirection := satInc s.laneCounters.c.wrongDirection } } }) ∧
    (∀ why, b.verdict = .fail why →
      exec .cReceiveFrameEnd s = .next { u with laneCounters := { s.laneCounters with c := match why with
          | .tooLong => { s.laneCounters.c with tooLong := satInc s.laneCounters.c.tooLong }
          | .malformed => { s.laneCounters.c with malformed := satInc s.laneCounters.c.malformed }
          | .crcError => { s.laneCounters.c with crcErrors := satInc s.laneCounters.c.crcErrors } } })

/-- The taking of an ENUMERATE (R164, R165): END on C-receive closes it exactly as the row ENUMERATE does (log 4), on an UP
C-receive whose frame passes the checks as an ENUMERATE with the address in bits 5-0 of its payload word (R153, R188), and
otherwise the row does nothing (log 2); the node address becomes the carried one, 63 taken as 0; the cache is emptied; a REPORT of
the new address is placed when it is not 0, or takes the place of a REPORT that waits in the answer list, or joins that list while
it holds a frame (log 13); and the ENUMERATE for upstream, one more or 0, is offered to the forward FIFO. A commit in progress
goes on, noted as crossed by the ENUMERATE (R110, log 24). -/
def Obligations.EnumerationIsTaken : Prop :=
  let waits (a : Address) (s : State) : Prop :=
    s.cRx.state = .up ∧ ∃ b f, s.cRx.assembly = some b ∧ b.verdict = .pass .enumerate f ∧
      (f.words.getD 1 0).extractLsb' 0 6 = a
  let isReport (f : AgentFrame) : Bool :=
    match f with
    | .report _ => true
    | .response _ => false
  (∀ (a : Address) (s : State), ¬ waits a s → exec (.enumerate a) s = .next s) ∧
  ∀ (a : Address) (s : State), waits a s →
    let own : Address := if a = 63 then 0 else a
    let next : Address := if own = 0 ∨ own = 62 then 0 else own + 1
    let frame : Frame := ⟨[5#4 ++ 0#6 ++ 0#14 ++ 1#8, 0#26 ++ next]⟩
    let agent : State :=
      { s with cRx := { s.cRx with invalidCount := 0, assembly := none }, nodeAddress := own, cache := []
               commitEnumerated := s.deferredCommit.isSome }
    let reported : State :=
      if own = 0 then agent
      else if s.answers.any isReport then
        { agent with answers := s.answers.map fun f => if isReport f then .report own else f }
      else if s.answers = [] ∧ s.responses.length < 2 then { agent with responses := s.responses ++ [.report own] }
      else { agent with answers := s.answers ++ [.report own] }
    exec .cReceiveFrameEnd s = exec (.enumerate a) s ∧
    exec (.enumerate a) s = .next
      (if s.forward.length < 4 then { reported with forward := s.forward ++ [frame] }
       else { reported with laneCounters :=
          { s.laneCounters with forwardOverflow := satInc s.laneCounters.forwardOverflow } })

/-- Credit symbols (R146, R150, R155): on an UP C-receive they raise the data counter up to 15, the control counter up to 7, or
set both to 0; on A-receive they are disregarded; on either lane one that stands inside a frame first closes it as malformed. -/
def Obligations.CreditSymbolsReceived : Prop :=
  ∀ (s : State),
    let u (side : Side) : State :=
      match (s.rx side).assembly with
      | none => s.setRx side { s.rx side with invalidCount := 0 }
      | some _ => (s.setRx side { s.rx side with invalidCount := 0, assembly := none }).countRx side
          fun k => { k with malformed := satInc k.malformed }
    (s.cRx.state = .up →
      exec (.creditDataReceived .c) s = .next { u .c with dataCredits := min 15 (s.dataCredits + 1) } ∧
      exec (.creditControlReceived .c) s = .next { u .c with controlCredits := min 7 (s.controlCredits + 1) } ∧
      exec (.creditResetReceived .c) s = .next { u .c with dataCredits := 0, controlCredits := 0 }) ∧
    (s.aRx.state = .up →
      exec (.creditDataReceived .a) s = .next (u .a) ∧ exec (.creditControlReceived .a) s = .next (u .a) ∧
      exec (.creditResetReceived .a) s = .next (u .a)) ∧
    (∀ side, (s.rx side).state = .down →
      exec (.creditDataReceived side) s = .next s ∧ exec (.creditControlReceived side) s = .next s ∧
      exec (.creditResetReceived side) s = .next s) ∧
    (∀ side, (s.rx side).state = .syncing →
      let t := s.setRx side { s.rx side with idleCount := 0 }
      exec (.creditDataReceived side) s = .next t ∧ exec (.creditControlReceived side) s = .next t ∧
      exec (.creditResetReceived side) s = .next t)

/-! ## Transmit lanes and the answer list -/

/-- The egress arbiter (R139, R152, R155, R156, R157, R159): while C-transmit is IDLE it starts the head frame of the first
source, in the order responses, notice, transit FIFO, output queue, that holds a frame while the counter of the frame's kind is at
least 1; the frame leaves its source with its CRC word, one credit of its kind is taken, and a freed transit entry is granted
while A-receive is UP and fewer than 4 CREDIT_CONTROL wait.  A frame is sent with the words it was stored or produced with. -/
def Obligations.EgressOrder : Prop :=
  (∀ c : CondFrame, (OutFrame.conditioned c).words = c.words) ∧ (∀ f : Frame, (OutFrame.passed f).words = f.words) ∧
  (∀ r : Response, (AgentFrame.response r).words = r.words) ∧
  ∀ s : State,
    (∀ words, s.cTx = .sending words → exec .egressStart s = .next s) ∧
    (s.cTx = .idle →
      (∀ f rest, 0 < s.controlCredits → s.responses = f :: rest →
        exec .egressStart s = .next { s with
          cTx := .sending (f.words ++ [crcOf f.words]), responses := rest, controlCredits := s.controlCredits - 1 }) ∧
      (∀ reason, 0 < s.controlCredits → s.responses = [] → s.exc.slot = some reason →
        let words := noticeWords reason s.nodeAddress s.exc s.hold
        exec .egressStart s = .next { s with
          cTx := .sending (words ++ [crcOf words]), exc := { s.exc with slot := none },
          controlCredits := s.controlCredits - 1 }) ∧
      (∀ f rest, 0 < s.controlCredits → s.responses = [] → s.exc.slot = none → s.transit = f :: rest →
        exec .egressStart s = .next { s with
          cTx := .sending (f.words ++ [crcOf f.words]), transit := rest, controlCredits := s.controlCredits - 1,
          grants := if s.aRx.state = .up ∧ s.pendingGrants .control < 4 then s.grants ++ [.control] else s.grants }) ∧
      (∀ f rest, (s.controlCredits = 0 ∨ s.responses = [] ∧ s.exc.slot = none ∧ s.transit = []) → 0 < s.dataCredits →
        s.outQueue = f :: rest →
        exec .egressStart s = .next { s with
          cTx := .sending (f.words ++ [crcOf f.words]), outQueue := rest, dataCredits := s.dataCredits - 1 }) ∧
      ((s.controlCredits = 0 ∨ s.responses = [] ∧ s.exc.slot = none ∧ s.transit = []) →
        (s.dataCredits = 0 ∨ s.outQueue = []) → exec .egressStart s = .next s))

/-- The transmit lanes (R145, R154, R157, R159): the END of a frame returns its lane to IDLE; an IDLE A-transmit sends the pending
credit symbol at the head of the list (kept in the model's own field, log 12), and starts the head of the forward FIFO only where
no credit symbol is pending; a SENDING lane does neither.  The number of pending symbols of a kind counts them in the pending
grant list (R159). -/
def Obligations.TransmitLanes : Prop :=
  ∀ s : State,
    (∀ kind : CreditSymbol, s.pendingGrants kind = (s.grants.filter fun g => decide (g = kind)).length) ∧
    exec (.transmitFrameEnd .a) s = .next { s with aTx := .idle } ∧
    exec (.transmitFrameEnd .c) s = .next { s with cTx := .idle } ∧
    (∀ g rest, s.aTx = .idle → s.grants = g :: rest →
      exec .aTransmitCreditSymbol s = .next { s with grants := rest, lastCreditSent := some g } ∧
      exec .forwardFifoStart s = .next s) ∧
    (∀ f rest, s.aTx = .idle → s.grants = [] → s.forward = f :: rest →
      exec .forwardFifoStart s = .next { s with forward := rest, aTx := .sending (f.words ++ [crcOf f.words]) } ∧
      exec .aTransmitCreditSymbol s = .next s) ∧
    (∀ words, s.aTx = .sending words →
      exec .aTransmitCreditSymbol s = .next s ∧ exec .forwardFifoStart s = .next s)

/-! ## The conversion engine -/

/-- The take of a frame that is not converted (R59, R60, R61, R62): a conditioned frame, and an unmatched raw frame under
UNMATCHED FORWARD, enter the output queue unchanged, a raw one under DISCARD is dropped; each is counted, and its ingress entry
freed, with one CREDIT_DATA grant while A-receive is UP and fewer than 8 wait (R159).  The engine takes no frame while it is
CONVERTING, while the ingress buffer is empty, while no output entry is free, while a released frame waits for one, and in
SWAP_PENDING (R59).  The conditioned flag, stream id, input sequence, timestamp and payload of a received DATA frame stand as
Table 11-2 gives them, the payload from word 4 on (R189). -/
def Obligations.EngineForwards : Prop :=
  (∀ f : Frame, f.conditioned = (f.words.getD 0 0).getLsbD 27 ∧ f.streamId = (f.words.getD 0 0).extractLsb' 8 8 ∧
    f.inputSeq = (f.words.getD 1 0).extractLsb' 16 16 ∧ f.timestamp = f.words.getD 2 0 ∧ f.payload = f.words.drop 4) ∧
  (∀ (s : State) (f : Frame) (rest : List Frame), s.ingress = f :: rest → s.engine = .idle → s.outQueue.length < 4 →
    (∀ g r, s.hold ≠ .releasing g r) → s.phase ≠ .swapPending →
    let granted : Bool := decide (s.aRx.state = .up ∧ s.pendingGrants .data < 8)
    let freed : State :=
      { s with
        ingress := rest
        grants := if granted then s.grants ++ [.data] else s.grants
        outstanding := if granted then s.outstanding + 1 else s.outstanding }
    (f.conditioned = true → exec .engineTake s = .next { freed with
      outQueue := s.outQueue ++ [.passed f]
      engineCounters :=
        { s.engineCounters with conditionedForwarded := satInc s.engineCounters.conditionedForwarded } }) ∧
    (f.conditioned = false → (∀ i : Fin 8, (s.active.stream i).enabled = true → (s.active.stream i).inputId ≠ f.streamId) →
      (s.params.unmatched = .forward → exec .engineTake s = .next { freed with
        outQueue := s.outQueue ++ [.passed f]
        engineCounters :=
          { s.engineCounters with unmatchedForwarded := satInc s.engineCounters.unmatchedForwarded } }) ∧
      (s.params.unmatched = .discard → exec .engineTake s = .next { freed with
        engineCounters :=
          { s.engineCounters with unmatchedDiscarded := satInc s.engineCounters.unmatchedDiscarded } }))) ∧
  ∀ s : State, (s.ingress = [] ∨ (∃ c, s.engine = .converting c) ∨ 4 ≤ s.outQueue.length ∨
      (∃ g r, s.hold = .releasing g r) ∨ s.phase = .swapPending) →
    exec .engineTake s = .next s

/-- The take of a matching frame (R60, R63, R64, R66, R67): the engine notes the generation, marks and counts a gap, advances the
expected sequence and makes it valid, forms a LENGTH record with the action NONE, the declared and received counts and the fields
that every record of the frame has, and sets the length sticky flag, where the payload length differs from the declaration and the
flag was clear (the sequence number and LOSS_BEFORE are given at storage, R127), and holds every slot of the layout still to
settle, in ascending channel number (log 6), over a payload of zero words. -/
def Obligations.EngineConverts : Prop :=
  ∀ (s : State) (f : Frame) (rest : List Frame) (i : Fin 8) (layout : Layout),
    s.ingress = f :: rest → s.engine = .idle → s.outQueue.length < 4 → (∀ g r, s.hold ≠ .releasing g r) →
    s.phase ≠ .swapPending → f.conditioned = false → (s.active.stream i).enabled = true →
    (s.active.stream i).inputId = f.streamId →
    (∀ j : Fin 8, j < i → (s.active.stream j).enabled = true → (s.active.stream j).inputId ≠ f.streamId) →
    s.layouts.get i = some layout →
    let r := s.runtime.get i
    let declared := (s.active.stream i).declared
    let gap : Bool := r.expectedValid && r.expected != f.inputSeq
    let length : Bool := decide (f.payload.length ≠ declared)
    let counted : Vector StreamCounters 8 :=
      if gap then
        s.engineCounters.streams.set i
          { s.engineCounters.streams.get i with gaps := satInc (s.engineCounters.streams.get i).gaps }
      else s.engineCounters.streams
    exec .engineTake s = .next { s with
      engine := .converting
        { generation := s.generation, stream := i, gap := gap, exception := length, diverting := false
          remaining := (List.finRange 128).filterMap fun ch => layout.entries.find? fun e => e.channel == ch
          payload := List.replicate layout.length 0 }
      runtime := s.runtime.set i
        { r with expected := f.inputSeq + 1, expectedValid := true, lengthSticky := r.lengthSticky || length }
      engineCounters := { s.engineCounters with streams := counted }
      exc := if length && !r.lengthSticky then
          s.exc.take s.params
            { seq := 0, cls := .length, action := .none, lossBefore := false, absent := false, companion := false
              wrappedToNull := false, generation := s.generation, stream := i, inputSeq := f.inputSeq, channel := none
              inputValue := [], storedValue := [], exponent := none
              counts := some (BitVec.ofNat 16 declared, BitVec.ofNat 16 f.payload.length) }
        else s.exc }

/-- The settling of one slot (R43, R44, R45, R46, R47, R65, R67, R68): a slot has the value of its role, from the payload and the
descriptors alone; its words are written at its offset, and no other word of the payload changes; a condition marks the frame an
exception frame, and diverting under a DIVERT policy, sets the flag of its class for its owner, and forms a record, with the facts
of the condition and the fields of the frame, where the owner's report mode is EVERY or the flag was clear (the sequence number and
LOSS_BEFORE are given at storage, R127).  The action of a condition names the policy that settled it. -/
def Obligations.SlotIsSettled : Prop :=
  (∀ (b : Bank) (payload : List Word) (e : SlotEntry),
    (e.role = .primary → settleSlot b payload e = settlePrimary payload e.channel (b.channel e.channel)) ∧
    (e.role = .companion → settleSlot b payload e = settleCompanion b payload e.channel (b.channel e.channel))) ∧
  ((OverflowPolicy.zero.action = .zero ∧ OverflowPolicy.saturate.action = .saturate ∧ OverflowPolicy.wrap.action = .wrap ∧
      OverflowPolicy.divert.action = .diverted) ∧
    (UnderflowPolicy.zero.action = .zero ∧ UnderflowPolicy.wrap.action = .wrap ∧ UnderflowPolicy.divert.action = .diverted) ∧
    (RangePolicy.zero.action = .zero ∧ RangePolicy.saturate.action = .saturate ∧ RangePolicy.divert.action = .diverted) ∧
    NullPolicy.zero.action = .zero ∧ NullPolicy.propagate.action = .propagate ∧ NullPolicy.divert.action = .diverted) ∧
  (∀ (payload ws : List Word) (offset : Nat), offset + ws.length ≤ payload.length →
    (writeWords payload offset ws).length = payload.length ∧
    ∀ i, (writeWords payload offset ws)[i]? =
      if offset ≤ i ∧ i < offset + ws.length then ws[i - offset]? else payload[i]?) ∧
  ∀ (s : State) (c : Conversion) (e : SlotEntry) (later : List SlotEntry) (f : Frame) (rest : List Frame),
    s.engine = .converting c → c.remaining = e :: later → s.ingress = f :: rest →
    let r := settleSlot s.active f.payload e
    (r.condition = none → exec .slotConversion s = .next { s with
      engine := .converting { c with remaining := later, payload := writeWords c.payload e.offset r.stored } }) ∧
    (∀ k, r.condition = some k →
      let flags := s.sticky.get e.channel
      let wasSet : Bool :=
        match k.cls with
        | .overflow => flags.overflow
        | .underflow => flags.underflow
        | .range => flags.range
        | .nullInput => flags.null
      let forms : Bool := (s.active.channel e.channel).report == .every || !wasSet
      exec .slotConversion s = .next { s with
        engine := .converting { c with
          remaining := later, payload := writeWords c.payload e.offset r.stored, exception := true
          diverting := c.diverting || k.action == .diverted }
        sticky := s.sticky.set e.channel (match k.cls with
          | .overflow => { flags with overflow := true }
          | .underflow => { flags with underflow := true }
          | .range => { flags with range := true }
          | .nullInput => { flags with null := true })
        exc := if forms then
            s.exc.take s.params
              { seq := 0, cls := .channel k.cls, action := k.action, lossBefore := false, absent := k.absent
                companion := k.companion, wrappedToNull := k.wrappedToNull, generation := c.generation, stream := c.stream
                inputSeq := f.inputSeq, channel := some e.channel, inputValue := k.input, storedValue := r.stored
                exponent := k.exponent, counts := none }
          else s.exc })

/-- Conversion completion (R69, R70, R71, R112, R113, R115): the frame gets the next output sequence, which rises by one, the
counters rise, the ingress entry is freed and granted, and the frame enters the output queue, or the EMPTY hold with its timer
started, or, refused by an occupied hold, the output queue with DIVERT_REFUSED and a HOLD_BUSY record, of action NONE and with the
fields that every record of the frame has (R67); the engine becomes IDLE. -/
def Obligations.ConversionCompletes : Prop :=
  ∀ (s : State) (c : Conversion) (f : Frame) (rest : List Frame),
    s.engine = .converting c → c.remaining = [] → s.ingress = f :: rest →
    let r := s.runtime.get c.stream
    let k := s.engineCounters.streams.get c.stream
    let counted : StreamCounters :=
      { k with
        converted := satInc k.converted
        exceptions := if c.exception then satInc k.exceptions else k.exceptions }
    let granted : Bool := decide (s.aRx.state = .up ∧ s.pendingGrants .data < 8)
    let g : CondFrame :=
      { exception := c.exception, gap := c.gap, released := false, timedOut := false, refused := false
        node := s.nodeAddress, outputId := (s.active.stream c.stream).outputId, inputSeq := f.inputSeq
        outputSeq := r.nextOutput, timestamp := f.timestamp, generation := c.generation, payload := c.payload }
    let u : State :=
      { s with
        engine := .idle
        runtime := s.runtime.set c.stream { r with nextOutput := r.nextOutput + 1 }
        engineCounters := { s.engineCounters with streams := s.engineCounters.streams.set c.stream counted }
        ingress := rest
        grants := if granted then s.grants ++ [.data] else s.grants
        outstanding := if granted then s.outstanding + 1 else s.outstanding }
    (c.diverting = false →
      exec .conversionCompletion s = .next { u with outQueue := s.outQueue ++ [.conditioned g] }) ∧
    (c.diverting = true → s.hold = .empty →
      exec .conversionCompletion s = .next { u with
        hold := .held g (if s.params.holdTimeout = 0 then none else some s.params.holdTimeout)
        holdCounters := { s.holdCounters with diverted := satInc s.holdCounters.diverted } }) ∧
    (c.diverting = true → s.hold ≠ .empty →
      exec .conversionCompletion s = .next { u with
        outQueue := s.outQueue ++ [.conditioned { g with refused := true }]
        exc := s.exc.take s.params
          { seq := 0, cls := .holdBusy, action := .none, lossBefore := false, absent := false, companion := false
            wrappedToNull := false, generation := c.generation, stream := c.stream, inputSeq := f.inputSeq, channel := none
            inputValue := [], storedValue := [], exponent := none, counts := none }
        holdCounters := { s.holdCounters with refused := satInc s.holdCounters.refused } })

/-- A record handed to the exception unit (R127, R128, R134, R135): with fewer than 32 records queued it is stored at the tail
with the next sequence number, with LOSS_BEFORE exactly when loss was pending, and starts the coalescing timer from QUIET and
ANNOUNCED, or announces at the threshold; with 32 it is counted as lost and only sets loss pending. -/
def Obligations.RecordsAreStoredOrLost : Prop :=
  ∀ (x : ExceptionUnit) (p : Params) (r : ExceptionRecord),
    let stored : ExceptionUnit :=
      { x with
        queue := x.queue ++ [{ r with seq := x.nextSeq, lossBefore := x.lossPending }]
        nextSeq := x.nextSeq + 1, lossPending := false }
    (32 ≤ x.queue.length → x.take p r = { x with lost := satInc x.lost, lossPending := true }) ∧
    (x.queue.length < 32 → x.queue.length + 1 = p.noticeThreshold → x.take p r = { stored with
      notice := .announced, coalescing := none, reminder := some 100, reminderCount := 0, slot := some .threshold }) ∧
    (x.queue.length < 32 → x.queue.length + 1 ≠ p.noticeThreshold → x.take p r = match x.notice with
      | .quiet => { stored with notice := .gathering, coalescing := some p.coalesceInterval }
      | .gathering => stored
      | .announced => { stored with notice := .gathering, coalescing := some p.coalesceInterval, reminder := none })

/-! ## The divert hold and the notices -/

/-- The expiry of the hold timer and the entry of a waiting released frame (R116, R120): a held frame whose timer runs is marked
TIMED_OUT, counted, and enters a free output entry or waits; a waiting frame enters the first free entry, a release by request
being answered OK with the frame's output stream id, output sequence and generation (the place of the generation, log 10; the
unnamed bits, log 25).  The expiry acts whatever the running timer has left (log 5); a stopped timer does not expire.  The answer
enters the tag cache as one that a repeat replays even where an ENUMERATE was taken meanwhile, since R110 speaks of a COMMIT alone
(R172, log 24).  One output
entry is reserved exactly while the engine is CONVERTING (log 14). -/
def Obligations.HoldReleases : Prop :=
  ∀ (s : State) (f : CondFrame),
    let free : Bool := decide (s.outQueue.length + s.outReserved < 4)
    let late : CondFrame := { f with timedOut := true }
    let counted : HoldCounters := { s.holdCounters with timeouts := satInc s.holdCounters.timeouts }
    (s.outReserved = match s.engine with
      | .idle => 0
      | .converting _ => 1) ∧
    (∀ n, s.hold = .held f (some n) → exec .holdTimerExpiry s = .next
      (if free then { s with hold := .empty, outQueue := s.outQueue ++ [.conditioned late], holdCounters := counted }
       else { s with hold := .releasing late .timeout, holdCounters := counted })) ∧
    (s.hold = .held f none → exec .holdTimerExpiry s = .next s) ∧
    (s.hold = .releasing f .timeout → free = true →
      exec .releaseEntry s = .next { s with hold := .empty, outQueue := s.outQueue ++ [.conditioned f] }) ∧
    (∀ rq, s.hold = .releasing f .request → free = true → s.deferredRelease = some rq →
      exec .releaseEntry s = .next
        (({ s with
            hold := .empty, outQueue := s.outQueue ++ [.conditioned f], deferredRelease := none } : State).answer rq
          ⟨.ok, [f.outputId ++ 0#8 ++ f.outputSeq, 0#16 ++ f.generation]⟩)) ∧
    (∀ why, s.hold = .releasing f why → free = false → exec .releaseEntry s = .next s)

/-- The notice timers (R136, R137, R138): the coalescing timer announces with INTERVAL in GATHERING; the reminder timer places a
REMINDER and counts it in ANNOUNCED, starting again below 3, and leaving QUIET with the timer stopped at 3; the notice placed takes
the slot whatever it held.  The expiry rows act whatever the running timer has left (the model's choice, log 5). -/
def Obligations.NoticeTimersExpire : Prop :=
  ∀ s : State,
    (∀ n, s.exc.notice = .gathering → s.exc.coalescing = some n →
      exec .coalescingTimerExpiry s = .next { s with exc := { s.exc with
        notice := .announced, coalescing := none, reminder := some 100, reminderCount := 0, slot := some .interval } }) ∧
    (∀ n, s.exc.notice = .announced → s.exc.reminder = some n → s.exc.reminderCount < 2 →
      exec .reminderTimerExpiry s = .next { s with exc := { s.exc with
        reminder := some 100, reminderCount := s.exc.reminderCount + 1, slot := some .reminder } }) ∧
    (∀ n, s.exc.notice = .announced → s.exc.reminder = some n → s.exc.reminderCount = 2 →
      exec .reminderTimerExpiry s = .next { s with exc := { s.exc with
        notice := .quiet, reminder := none, reminderCount := 3, slot := some .reminder } }) ∧
    (s.exc.notice = .quiet → exec .coalescingTimerExpiry s = .next s ∧ exec .reminderTimerExpiry s = .next s)

/-! ## Commit -/

/-- The events of a commit in progress (R104, R105, R106, R107, R108): a fault found ends it and is answered COMMIT_FAILED; a bank
that passes leaves SWAP_PENDING with its compiled layouts; the swap, taken while the engine is IDLE, makes the shadow bank active,
keeps it as shadow too, installs the layouts, raises the generation, sets back the runtime state of each stream whose enabled
field or input stream id differs, and is answered OK with the new generation.  The answer enters the tag cache (R171,
R172), in an entry that notes whether an ENUMERATE was taken during the commit (R110; the model's own note, log 24); the unnamed
bits of the answers are zero (log 25).  The reasons have the codes of Table 11-7. -/
def Obligations.CommitEnds : Prop :=
  (∀ r : CommitReason, r.code = match r with
    | .duplicateStream => 1#8 | .badStreamRef => 2#8 | .positionRange => 3#8 | .positionOverlap => 4#8 | .badSplit => 5#8
    | .companionMissing => 6#8 | .companionStream => 7#8 | .companionShared => 8#8 | .nullCodeRequired => 9#8
    | .companionOrphan => 10#8 | .classFull => 11#8 | .layoutFull => 12#8) ∧
  ∀ (s : State) (rq : Request), s.deferredCommit = some rq →
    let answered (t : State) (r : Reply) : State :=
      let placed := { t with deferredCommit := none, commitEnumerated := false }.answer rq r
      let response : Response := ⟨s.nodeAddress, rq.tag, rq.code, r.status, r.data⟩
      { placed with cache := cacheInsert s.cache ⟨rq, response, s.commitEnumerated⟩ }
    (∀ f, s.phase = .compiling → validate s.shadow = some f →
      exec .validationFailure s = .next
        (answered { s with phase := .idle, pendingLayouts := none }
          ⟨.commitFailed,
            [s.generation ++ f.reason.code ++ BitVec.ofNat 8 f.index,
             match f.stream with | some i => 0#23 ++ 1#1 ++ BitVec.ofNat 8 i | none => 0#32]⟩)) ∧
    (s.phase = .compiling → validate s.shadow = none →
      exec .compilationEnd s = .next
        { s with phase := .swapPending, pendingLayouts := some (compileLayouts s.shadow) }) ∧
    (∀ layouts, s.phase = .swapPending → s.engine = .idle → s.pendingLayouts = some layouts →
      let raised : Seq := if s.generation = 65535 then 1 else s.generation + 1
      exec .swap s = .next
        (answered { s with
            active := s.shadow, layouts := layouts, pendingLayouts := none, generation := raised, phase := .idle
            runtime := Vector.ofFn fun i =>
              if (s.active.stream i).enabled = (s.shadow.stream i).enabled ∧
                  (s.active.stream i).inputId = (s.shadow.stream i).inputId then s.runtime.get i
              else ⟨0, false, 0, false⟩ } ⟨.ok, [0#16 ++ raised]⟩)) ∧
    (∀ c, s.phase = .swapPending → s.engine = .converting c → exec .swap s = .next s)

/-- Where a frame that the agent produces goes (R170): the response queue while it has a free entry and the answer list is empty,
else the tail of the answer list (log 13); an entry of the response queue freed while the answer list holds frames goes to the
head of the list; and an answer enters the tag cache unless it is BUSY or IN_PROGRESS (R172). -/
def Obligations.AnswersArePlaced : Prop :=
  (∀ (s : State) (rq : Request) (st : Status) (data : List Word),
    let response : Response := ⟨s.nodeAddress, rq.tag, rq.code, st, data⟩
    let cached : List CacheEntry :=
      if st = .busy ∨ st = .inProgress then s.cache else cacheInsert s.cache ⟨rq, response, false⟩
    (s.answers = [] → s.responses.length < 2 →
      s.answer rq ⟨st, data⟩ = { s with responses := s.responses ++ [.response response], cache := cached }) ∧
    (s.answers ≠ [] ∨ 2 ≤ s.responses.length →
      s.answer rq ⟨st, data⟩ = { s with answers := s.answers ++ [.response response], cache := cached })) ∧
  ∀ s : State,
    (∀ f rest, s.answers = f :: rest → s.responses.length < 2 →
      exec .answerListEntry s = .next { s with answers := rest, responses := s.responses ++ [f] }) ∧
    (s.answers = [] ∨ 2 ≤ s.responses.length → exec .answerListEntry s = .next s)

/-! ## The agent: the tests that come before a command's own -/

/-- For every request row (R168, R171, R173): a request with the tag of a deferred request is answered IN_PROGRESS and nothing
else changes; else one that equals the request of a cache entry is answered by a copy of the cached response, the replay counter
raised, and nothing else changes.  In both the request leaves the queue (R167).  Before a request is tested, the clearing of the
cache by an ENUMERATE that crossed a commit has reached the answer of the commit (R110; the model's choice of the moment, log 24),
so a row acts as it does in the state without that entry.  Every request row carries a request of its command code (Table 11-5),
with at most 32 operand words, and a RELEASE_HOLD or RESET row none with the operand code of a neighbouring row (log 3). -/
def Obligations.TagTestsComeFirst : Prop :=
  (∀ rq : Request,
    let rows : List (Instr × BitVec 8) :=
      [(.identify rq, 0x01), (.readStatus rq, 0x02), (.writeChannel rq, 0x03), (.readChannel rq, 0x04), (.writeStream rq, 0x05),
       (.readStream rq, 0x06), (.writeClass rq, 0x07), (.readClass rq, 0x08), (.copyActive rq, 0x09), (.commit rq, 0x0A),
       (.readLayout rq, 0x0B), (.fetchExceptions rq, 0x0C), (.ackExceptions rq, 0x0D), (.readSticky rq, 0x0E),
       (.clearSticky rq, 0x0F), (.readCounters rq, 0x11), (.clearCounters rq, 0x12), (.setParameter rq, 0x13),
       (.readParameter rq, 0x14)]
    let coded : List (Instr × BitVec 8 × List (BitVec 8)) :=
      [(.releaseHoldForward rq, 0x10, [2]), (.releaseHoldDiscard rq, 0x10, [1]), (.resetPipeline rq, 0x15, [2, 3]),
       (.resetExceptions rq, 0x15, [1, 3]), (.resetAll rq, 0x15, [1, 2])]
    (∀ row ∈ rows, row.1.request? = some rq ∧
      (row.1.wellFormed = true ↔ rq.operands.length ≤ 32 ∧ rq.code = row.2)) ∧
    (∀ row ∈ coded, row.1.request? = some rq ∧
      (row.1.wellFormed = true ↔ rq.operands.length ≤ 32 ∧ rq.code = row.2.1 ∧
        ∀ w, rq.operands = [w] → w.extractLsb' 0 8 ∉ row.2.2)) ∧
    (Instr.undefinedCommand rq).request? = some rq ∧
    ((Instr.undefinedCommand rq).wellFormed = true ↔ rq.operands.length ≤ 32 ∧ (rq.code = 0 ∨ 0x16 ≤ rq.code.toNat))) ∧
  ∀ (i : Instr) (rq : Request) (s : State) (rest : List Request),
    i.request? = some rq → i.wellFormed = true → Ready s rq rest →
    let inUse : Prop := (∃ d, s.deferredCommit = some d ∧ d.tag = rq.tag) ∨ (∃ d, s.deferredRelease = some d ∧ d.tag = rq.tag)
    let cleared : State := { s with cache := s.cache.filter fun e => !e.crossed }
    exec i s = exec i cleared ∧
    (inUse → exec i s = .next (cleared.answered rq rest .inProgress [])) ∧
    (∀ e before after, ¬ inUse → cleared.cache = before ++ e :: after → (∀ k ∈ before, k.request ≠ rq) → e.request = rq →
      exec i s = .next { cleared with
        requests := rest, responses := s.responses ++ [.response e.response], replays := satInc s.replays })

/-- For every request row (R168, R174): a command code that names no command, and a broadcast of a command that is not admitted by
broadcast, are answered BAD_COMMAND and nothing else changes; the first is all that the row UNDEFINED_COMMAND does.  Four codes
are admitted by broadcast: those of IDENTIFY, READ_STATUS, CLEAR_COUNTERS and RESET. -/
def Obligations.BadCommandsAreRefused : Prop :=
  (∀ code : BitVec 8, broadcastAdmitted code = true ↔ code = 0x01 ∨ code = 0x02 ∨ code = 0x12 ∨ code = 0x15) ∧
  (∀ (rq : Request) (s : State) (rest : List Request), Untagged s rq rest → (rq.code = 0 ∨ 0x16 ≤ rq.code.toNat) →
    exec (.undefinedCommand rq) s = .next (s.answered rq rest .badCommand [])) ∧
  ∀ (i : Instr) (rq : Request) (s : State) (rest : List Request),
    i.request? = some rq → i.wellFormed = true → Untagged s rq rest →
    rq.dest = 63 → rq.code ≠ 0x01 → rq.code ≠ 0x02 → rq.code ≠ 0x12 → rq.code ≠ 0x15 →
    exec i s = .next (s.answered rq rest .badCommand [])

/-- A row takes no request while the response queue is full, while the answer list holds a frame, or while the head of the request
queue is another request (R167, R168; log 3). -/
def Obligations.AgentWaits : Prop :=
  ∀ (i : Instr) (rq : Request) (s : State), i.request? = some rq →
    (2 ≤ s.responses.length ∨ s.answers ≠ [] ∨ s.requests.head? ≠ some rq) → exec i s = .next s

/-- The tag cache after an entry is added (R172): the new entry is the newest, no other entry has its tag, the others keep their
order, and the oldest of four makes room. -/
def Obligations.CacheKeepsFour : Prop :=
  ∀ (cache : List CacheEntry) (e : CacheEntry), cache.length ≤ 4 → (cache.map fun k => k.request.tag).Nodup →
    let others := cache.filter fun k => k.request.tag ≠ e.request.tag
    (cacheInsert cache e).length ≤ 4 ∧ ((cacheInsert cache e).map fun k => k.request.tag).Nodup ∧
    (others.length < 4 → cacheInsert cache e = others ++ [e]) ∧
    (∀ oldest later, others = oldest :: later → later.length = 3 → cacheInsert cache e = later ++ [e])

/-! ## The commands -/

/-- IDENTIFY and READ_STATUS (R166, R182, R188, R193) answer with the identification and with the snapshot of Table 10-1, and
change nothing else; with operand words they are answered BAD_VALUE (R168).  The states have the codes of Table 11-7. -/
def Obligations.IdentifyAndStatus : Prop :=
  (∀ x : CommitPhase, x.code = match x with | .idle => 0#8 | .compiling => 1#8 | .swapPending => 2#8) ∧
  (∀ x : Engine, x.code = match x with | .idle => 0#8 | .converting _ => 1#8) ∧
  (∀ x : Hold, x.code = match x with | .empty => 0#8 | .held _ _ => 1#8 | .releasing _ _ => 2#8) ∧
  (∀ x : NoticeState, x.code = match x with | .quiet => 0#8 | .gathering => 1#8 | .announced => 2#8) ∧
  (∀ x : RxState, x.code = match x with | .down => 0#8 | .syncing => 1#8 | .up => 2#8) ∧
  (∀ x : TxLane, x.code = match x with | .idle => 0#8 | .sending _ => 1#8) ∧
  ∀ (s : State) (rq : Request) (rest : List Request), Takes s rq rest →
    (rq.code = 0x01 → rq.operands = [] → exec (.identify rq) s = .next (s.answered rq rest .ok
      [0x0A31#16 ++ 0x6120#16, 1#8 ++ 0#2 ++ s.nodeAddress ++ 128#16, 8#4 ++ 8#4 ++ 8#4 ++ 4#4 ++ 0#8 ++ 32#8])) ∧
    (rq.code = 0x02 → rq.operands = [] → exec (.readStatus rq) s = .next (s.answered rq rest .ok
      [0#2 ++ s.nodeAddress ++ s.phase.code ++ s.generation,
       s.engine.code ++ BitVec.ofNat 8 s.ingress.length ++ BitVec.ofNat 8 s.outQueue.length ++
         BitVec.ofNat 8 s.transit.length,
       BitVec.ofNat 8 s.forward.length ++ BitVec.ofNat 8 rest.length ++ s.hold.code ++ BitVec.ofNat 8 s.exc.queue.length,
       s.exc.notice.code ++ BitVec.ofNat 8 s.dataCredits ++ BitVec.ofNat 8 s.controlCredits ++
         BitVec.ofNat 8 s.outstanding,
       s.aRx.state.code ++ s.cRx.state.code ++ s.aTx.code ++ s.cTx.code])) ∧
    (rq.operands ≠ [] →
      (rq.code = 0x01 → exec (.identify rq) s = .next (s.answered rq rest .badValue [])) ∧
      (rq.code = 0x02 → exec (.readStatus rq) s = .next (s.answered rq rest .badValue [])))

/-- WRITE_CHANNEL, WRITE_STREAM and WRITE_CLASS (R31, R52, R76, R96): BUSY while a commit is in progress, else BAD_INDEX for an
index out of range, else BAD_VALUE for an image that fails its checks (log 7 for a request without an index word), else the whole
shadow record is replaced and answered OK; nothing else changes. -/
def Obligations.WritesReplaceShadowRecords : Prop :=
  ∀ (s : State) (rq : Request) (rest : List Request), Takes s rq rest →
    (s.phase ≠ .idle →
      (rq.code = 0x03 → exec (.writeChannel rq) s = .next (s.answered rq rest .busy [])) ∧
      (rq.code = 0x05 → exec (.writeStream rq) s = .next (s.answered rq rest .busy [])) ∧
      (rq.code = 0x07 → exec (.writeClass rq) s = .next (s.answered rq rest .busy []))) ∧
    (s.phase = .idle → rq.operands = [] →
      (rq.code = 0x03 → exec (.writeChannel rq) s = .next (s.answered rq rest .badValue [])) ∧
      (rq.code = 0x05 → exec (.writeStream rq) s = .next (s.answered rq rest .badValue [])) ∧
      (rq.code = 0x07 → exec (.writeClass rq) s = .next (s.answered rq rest .badValue []))) ∧
    (∀ w image, s.phase = .idle → rq.operands = w :: image →
      let n := (w.extractLsb' 0 8).toNat
      (rq.code = 0x03 → 127 < n → exec (.writeChannel rq) s = .next (s.answered rq rest .badIndex [])) ∧
      (rq.code = 0x05 → 7 < n → exec (.writeStream rq) s = .next (s.answered rq rest .badIndex [])) ∧
      (rq.code = 0x07 → 7 < n → exec (.writeClass rq) s = .next (s.answered rq rest .badIndex [])) ∧
      (rq.code = 0x03 → n ≤ 127 → decodeDescriptor image = none →
        exec (.writeChannel rq) s = .next (s.answered rq rest .badValue [])) ∧
      (rq.code = 0x05 → n ≤ 7 → decodeStream image = none →
        exec (.writeStream rq) s = .next (s.answered rq rest .badValue [])) ∧
      (rq.code = 0x07 → n ≤ 7 → decodeClass image = none →
        exec (.writeClass rq) s = .next (s.answered rq rest .badValue [])) ∧
      (∀ i : Fin 128, ∀ d, rq.code = 0x03 → i.val = n → decodeDescriptor image = some d →
        exec (.writeChannel rq) s = .next
          (({ s with shadow := { s.shadow with channels := s.shadow.channels.set i d } } : State).answered rq rest .ok [])) ∧
      (∀ i : Fin 8, ∀ r, rq.code = 0x05 → i.val = n → decodeStream image = some r →
        exec (.writeStream rq) s = .next
          (({ s with shadow := { s.shadow with streams := s.shadow.streams.set i r } } : State).answered rq rest .ok [])) ∧
      (∀ i : Fin 8, ∀ r, rq.code = 0x07 → i.val = n → decodeClass image = some r →
        exec (.writeClass rq) s = .next
          (({ s with shadow := { s.shadow with classes := s.shadow.classes.set i r } } : State).answered rq rest .ok [])))

/-- READ_CHANNEL, READ_STREAM and READ_CLASS (R36, R53, R77, R91): BAD_INDEX for an index out of range, then BAD_VALUE for a
selector that names neither bank, else the image of the record of the named bank; nothing else changes.  A record of a bank is the
one at its index. -/
def Obligations.ReadsReturnImages : Prop :=
  (∀ b : Bank, (∀ i, b.channel i = b.channels.get i) ∧ (∀ i, b.stream i = b.streams.get i) ∧
    ∀ i, b.classRecord i = b.classes.get i) ∧
  ∀ (s : State) (rq : Request) (rest : List Request) (w : Word), Takes s rq rest → rq.operands = [w] →
    let n := (w.extractLsb' 0 8).toNat
    let selector := w.extractLsb' 8 8
    let bank := if selector = 1 then s.active else s.shadow
    (rq.code = 0x04 → 127 < n → exec (.readChannel rq) s = .next (s.answered rq rest .badIndex [])) ∧
    (rq.code = 0x06 → 7 < n → exec (.readStream rq) s = .next (s.answered rq rest .badIndex [])) ∧
    (rq.code = 0x08 → 7 < n → exec (.readClass rq) s = .next (s.answered rq rest .badIndex [])) ∧
    (selector ≠ 1 → selector ≠ 2 →
      (rq.code = 0x04 → n ≤ 127 → exec (.readChannel rq) s = .next (s.answered rq rest .badValue [])) ∧
      (rq.code = 0x06 → n ≤ 7 → exec (.readStream rq) s = .next (s.answered rq rest .badValue [])) ∧
      (rq.code = 0x08 → n ≤ 7 → exec (.readClass rq) s = .next (s.answered rq rest .badValue []))) ∧
    (selector = 1 ∨ selector = 2 →
      (∀ i : Fin 128, i.val = n → rq.code = 0x04 →
        exec (.readChannel rq) s = .next (s.answered rq rest .ok (encodeDescriptor (bank.channel i)))) ∧
      (∀ i : Fin 8, i.val = n → rq.code = 0x06 →
        exec (.readStream rq) s = .next (s.answered rq rest .ok (encodeStream (bank.stream i)))) ∧
      (∀ i : Fin 8, i.val = n → rq.code = 0x08 →
        exec (.readClass rq) s = .next (s.answered rq rest .ok (encodeClass (bank.classRecord i)))))

/-- COPY_ACTIVE (R92): in phase IDLE the shadow bank becomes equal to the active bank, at once and with nothing else changed, and
the answer is OK; during a commit the answer is BUSY and nothing changes; it carries no operand; after a swap the shadow bank
already equals the active one and the phase is IDLE. -/
def Obligations.CopyActiveCopies : Prop :=
  ∀ (s : State) (rq : Request) (rest : List Request),
    (Takes s rq rest → rq.code = 0x09 →
      (s.phase = .idle → rq.operands = [] →
        exec (.copyActive rq) s = .next (({ s with shadow := s.active } : State).answered rq rest .ok [])) ∧
      (s.phase ≠ .idle → exec (.copyActive rq) s = .next (s.answered rq rest .busy [])) ∧
      (s.phase = .idle → rq.operands ≠ [] → exec (.copyActive rq) s = .next (s.answered rq rest .badValue []))) ∧
    (∀ layouts t, s.phase = .swapPending → s.engine = .idle → s.pendingLayouts = some layouts →
      exec .swap s = .next t → t.shadow = t.active ∧ t.phase = .idle)

/-- COMMIT (R95, R96, R171): in phase IDLE it is accepted, COMPILING begins and the request is deferred with no answer; during a
commit it is answered BUSY; it carries no operand.  No ENUMERATE has crossed the commit yet.  A COMMIT repeated after a commit
that an ENUMERATE crossed is executed afresh in this way: the clearing of the cache has reached the answer of that commit (R110;
the model's choice of the moment, log 24). -/
def Obligations.CommitIsDeferred : Prop :=
  ∀ (s : State) (rq : Request) (rest : List Request),
    let cleared : State := { s with cache := s.cache.filter fun e => !e.crossed }
    Takes cleared rq rest → rq.code = 0x0A →
    (s.phase = .idle → rq.operands = [] →
      exec (.commit rq) s = .next
        { cleared with requests := rest, phase := .compiling, deferredCommit := some rq, commitEnumerated := false }) ∧
    (s.phase ≠ .idle → exec (.commit rq) s = .next (cleared.answered rq rest .busy [])) ∧
    (s.phase = .idle → rq.operands ≠ [] → exec (.commit rq) s = .next (cleared.answered rq rest .badValue []))

/-- READ_LAYOUT (R88, R89, R193): BAD_INDEX for a stream index above 7 or a first entry index above 95; else generation, enabled
field, stream index, length, total, first entry index, number returned, and up to 64 entries from the first one on; no layout
gives length 0 and no entries; bits 31-24 of word 1 are zero (log 25); nothing else changes.  The role codes are 1 PRIMARY and 2
COMPANION. -/
def Obligations.ReadLayoutReturnsARun : Prop :=
  (∀ x : SlotRole, x.code = match x with | .primary => 1#8 | .companion => 2#8) ∧
  ∀ (s : State) (rq : Request) (rest : List Request) (w : Word), Takes s rq rest → rq.code = 0x0B → rq.operands = [w] →
    let n := (w.extractLsb' 8 8).toNat
    let first := (w.extractLsb' 0 8).toNat
    (7 < n ∨ 95 < first → exec (.readLayout rq) s = .next (s.answered rq rest .badIndex [])) ∧
    (∀ i : Fin 8, i.val = n → first ≤ 95 →
      let layout : Layout := (s.layouts.get i).getD ⟨[], 0⟩
      let page := (layout.entries.drop first).take 64
      exec (.readLayout rq) s = .next (s.answered rq rest .ok
        ([s.generation ++ BitVec.ofBool (s.active.stream i).enabled ++ BitVec.ofNat 7 i ++ BitVec.ofNat 8 layout.length,
          0#8 ++ BitVec.ofNat 8 layout.entries.length ++ BitVec.ofNat 8 first ++ BitVec.ofNat 8 page.length] ++
         page.map fun e => BitVec.ofNat 8 e.offset ++ BitVec.ofNat 8 e.width ++ BitVec.ofNat 8 e.channel ++ e.role.code)))

/-- FETCH_EXCEPTIONS (R130, R131, R193, R194): up to 8 records from the head, or from the record after the named one, or from the
head with RESTARTED where no record has the named number; MORE where records stand beyond the last one returned; a presence code
other than 0 and 1, and another number of operand words, are answered BAD_VALUE; bits 29-16 of word 0 are zero (log 25); nothing
else changes. -/
def Obligations.FetchReturnsAPage : Prop :=
  ∀ (s : State) (rq : Request) (rest : List Request), Takes s rq rest → rq.code = 0x0C →
    let answer (from_ : List ExceptionRecord) (restarted : Bool) : List Word :=
      (BitVec.ofBool (decide (8 < from_.length)) ++ BitVec.ofBool restarted ++ 0#14 ++ BitVec.ofNat 8 s.exc.queue.length ++
        BitVec.ofNat 8 (from_.take 8).length) :: (from_.take 8).flatMap ExceptionRecord.words
    (∀ w, rq.operands = [w] → w.extractLsb' 24 8 = 0 →
      exec (.fetchExceptions rq) s = .next (s.answered rq rest .ok (answer s.exc.queue false))) ∧
    (∀ w before r later, rq.operands = [w] → w.extractLsb' 24 8 = 1 → s.exc.queue = before ++ r :: later →
      r.seq = w.extractLsb' 0 16 → (∀ k ∈ before, k.seq ≠ r.seq) →
      exec (.fetchExceptions rq) s = .next (s.answered rq rest .ok (answer later false))) ∧
    (∀ w, rq.operands = [w] → w.extractLsb' 24 8 = 1 → (∀ k ∈ s.exc.queue, k.seq ≠ w.extractLsb' 0 16) →
      exec (.fetchExceptions rq) s = .next (s.answered rq rest .ok (answer s.exc.queue true))) ∧
    (∀ w, rq.operands = [w] → 1 < (w.extractLsb' 24 8).toNat →
      exec (.fetchExceptions rq) s = .next (s.answered rq rest .badValue [])) ∧
    (rq.operands.length ≠ 1 → exec (.fetchExceptions rq) s = .next (s.answered rq rest .badValue []))

/-- ACK_EXCEPTIONS (R132, R137, R193): the records up to and including the named one are removed and the new occupancy answered; a
queue emptied so makes the notice state QUIET, stops both timers and sets the reminder count to 0; no record of that number gives
STALE with the occupancy and removes nothing; a wrong operand count gives BAD_VALUE; the bits of an answer above the
occupancy are zero (log 25); nothing else changes. -/
def Obligations.AckRemovesUpTo : Prop :=
  ∀ (s : State) (rq : Request) (rest : List Request), Takes s rq rest → rq.code = 0x0D →
    (∀ w before r later, rq.operands = [w] → s.exc.queue = before ++ r :: later → r.seq = w.extractLsb' 0 16 →
      (∀ k ∈ before, k.seq ≠ r.seq) →
      (later ≠ [] → exec (.ackExceptions rq) s = .next
        (({ s with exc := { s.exc with queue := later } } : State).answered rq rest .ok
          [0#24 ++ BitVec.ofNat 8 later.length])) ∧
      (later = [] → exec (.ackExceptions rq) s = .next
        (({ s with exc := { s.exc with
              queue := [], notice := .quiet, coalescing := none, reminder := none, reminderCount := 0 } } : State).answered
          rq rest .ok [0#32]))) ∧
    (∀ w, rq.operands = [w] → (∀ k ∈ s.exc.queue, k.seq ≠ w.extractLsb' 0 16) →
      exec (.ackExceptions rq) s = .next (s.answered rq rest .stale [0#24 ++ BitVec.ofNat 8 s.exc.queue.length])) ∧
    (rq.operands.length ≠ 1 → exec (.ackExceptions rq) s = .next (s.answered rq rest .badValue []))

/-- READ_STICKY and CLEAR_STICKY (R49, R176, R193).  A read: BAD_INDEX for a first channel above 127, then BAD_VALUE for a count
of 0 or a run beyond channel 127; else the operands and the four flags of each channel of the run, eight channels per word from
bit 31, and nothing else changes.  A clear: with the code of one channel its four flags are cleared, or BAD_INDEX above 127; with
the code ALL every channel's, whatever the channel field; with another code BAD_VALUE; the length sticky flags and everything else
stay.  The operands are echoed in the places they had in the request, the other bits zero (the model's choice, log 10). -/
def Obligations.StickyIsReadAndCleared : Prop :=
  (∀ (s : State) (rq : Request) (rest : List Request) (w : Word), Takes s rq rest → rq.code = 0x0E → rq.operands = [w] →
    let first := (w.extractLsb' 8 8).toNat
    let count := (w.extractLsb' 0 8).toNat
    (127 < first → exec (.readSticky rq) s = .next (s.answered rq rest .badIndex [])) ∧
    (first ≤ 127 → (count = 0 ∨ 128 < first + count) →
      exec (.readSticky rq) s = .next (s.answered rq rest .badValue [])) ∧
    (1 ≤ count → first + count ≤ 128 →
      ∃ data, exec (.readSticky rq) s = .next (s.answered rq rest .ok ((0#16 ++ w.extractLsb' 0 16) :: data)) ∧
        data.length = (count + 7) / 8 ∧
        ∀ (k : Nat) (ch : Fin 128), k < count → ch.val = first + k →
          let flags := s.sticky.get ch
          (data.getD (k / 8) 0).extractLsb' (28 - 4 * (k % 8)) 4 =
            BitVec.ofBool flags.overflow ++ BitVec.ofBool flags.underflow ++ BitVec.ofBool flags.range ++
              BitVec.ofBool flags.null)) ∧
  ∀ (s : State) (rq : Request) (rest : List Request), Takes s rq rest → rq.code = 0x0F →
    (∀ w, rq.operands = [w] →
      (∀ ch : Fin 128, w.extractLsb' 24 8 = 1 → ch.val = (w.extractLsb' 0 8).toNat →
        exec (.clearSticky rq) s = .next
          (({ s with sticky := s.sticky.set ch ⟨false, false, false, false⟩ } : State).answered rq rest .ok [])) ∧
      (w.extractLsb' 24 8 = 1 → 127 < (w.extractLsb' 0 8).toNat →
        exec (.clearSticky rq) s = .next (s.answered rq rest .badIndex [])) ∧
      (w.extractLsb' 24 8 = 2 → exec (.clearSticky rq) s = .next
        (({ s with sticky := Vector.replicate 128 ⟨false, false, false, false⟩ } : State).answered rq rest .ok [])) ∧
      (w.extractLsb' 24 8 ≠ 1 → w.extractLsb' 24 8 ≠ 2 →
        exec (.clearSticky rq) s = .next (s.answered rq rest .badValue [])))

/-- RELEASE_HOLD (R117, R118, R119, R171, R193): FORWARD in HELD marks the frame RELEASED and sends it to a free output entry,
answered OK, or leaves it waiting, the request deferred with no answer; DISCARD in HELD drops it, counts it and is answered OK; in
EMPTY and RELEASING either is answered NOT_HELD with the hold state; an operand that names neither is answered BAD_VALUE by
either row (log 3).  The generation stands in bits 15-0 of word 1 (log 10) and the unnamed bits are zero (log 25). -/
def Obligations.ReleaseHoldActs : Prop :=
  ∀ (s : State) (rq : Request) (rest : List Request), Takes s rq rest → rq.code = 0x10 →
    (∀ w f t, rq.operands = [w] → s.hold = .held f t →
      let data : List Word := [f.outputId ++ 0#8 ++ f.outputSeq, 0#16 ++ f.generation]
      let marked : CondFrame := { f with released := true }
      (w.extractLsb' 0 8 = 1 → s.outQueue.length + s.outReserved < 4 → exec (.releaseHoldForward rq) s = .next
        (({ s with hold := .empty, outQueue := s.outQueue ++ [.conditioned marked] } : State).answered rq rest .ok data)) ∧
      (w.extractLsb' 0 8 = 1 → 4 ≤ s.outQueue.length + s.outReserved → exec (.releaseHoldForward rq) s = .next
        { s with requests := rest, hold := .releasing marked .request, deferredRelease := some rq }) ∧
      (w.extractLsb' 0 8 = 2 → exec (.releaseHoldDiscard rq) s = .next
        (({ s with
            hold := .empty
            holdCounters := { s.holdCounters with discarded := satInc s.holdCounters.discarded } } : State).answered
          rq rest .ok data))) ∧
    (∀ w, rq.operands = [w] → (∀ f t, s.hold ≠ .held f t) →
      (w.extractLsb' 0 8 = 1 →
        exec (.releaseHoldForward rq) s = .next (s.answered rq rest .notHeld [0#24 ++ s.hold.code])) ∧
      (w.extractLsb' 0 8 = 2 →
        exec (.releaseHoldDiscard rq) s = .next (s.answered rq rest .notHeld [0#24 ++ s.hold.code]))) ∧
    ((∀ w, rq.operands = [w] → w.extractLsb' 0 8 ≠ 1 ∧ w.extractLsb' 0 8 ≠ 2) →
      exec (.releaseHoldForward rq) s = .next (s.answered rq rest .badValue []) ∧
      exec (.releaseHoldDiscard rq) s = .next (s.answered rq rest .badValue []))

/-- READ_COUNTERS and CLEAR_COUNTERS (R128, R185, R186): the group selector and the counters of the group in the order of R185; a
clear then sets them to 0, but leaves the lost-record counter; a selector that names no group, or another number of operand words,
is answered BAD_VALUE; nothing else changes.  The selector stands in bits 7-0 of word 0, zero above it (the model's choice, log
10).  A counter counts by one and stays at 2^32 - 1 (R184). -/
def Obligations.CountersAreReadAndCleared : Prop :=
  (∀ c : Counter, c ≠ 0xFFFFFFFF#32 → satInc c = c + 1) ∧ satInc 0xFFFFFFFF#32 = 0xFFFFFFFF#32 ∧
  ∀ (s : State) (rq : Request) (rest : List Request), Takes s rq rest →
    let lane (k : RxCounters) : List Word :=
      [k.laneDowns, k.truncated, k.tooLong, k.malformed, k.crcErrors, k.wrongDirection]
    let l := s.laneCounters
    let e := s.engineCounters
    let h := s.holdCounters
    let laneData := lane l.a ++ lane l.c ++ [l.ingressOverflow, l.transitOverflow, l.forwardOverflow]
    let engineData :=
      ((List.finRange 8).flatMap fun i =>
        [(e.streams.get i).converted, (e.streams.get i).exceptions, (e.streams.get i).gaps]) ++
      [e.unmatchedForwarded, e.unmatchedDiscarded, e.conditionedForwarded]
    let holdData := [h.diverted, h.refused, h.discarded, h.timeouts]
    let agentData := [s.requestDrops, s.replays, s.exc.lost]
    (∀ w, rq.operands = [w] →
      (rq.code = 0x11 →
        (w.extractLsb' 0 8 = 1 → exec (.readCounters rq) s = .next (s.answered rq rest .ok (1 :: laneData))) ∧
        (w.extractLsb' 0 8 = 2 → exec (.readCounters rq) s = .next (s.answered rq rest .ok (2 :: engineData))) ∧
        (w.extractLsb' 0 8 = 3 → exec (.readCounters rq) s = .next (s.answered rq rest .ok (3 :: holdData))) ∧
        (w.extractLsb' 0 8 = 4 → exec (.readCounters rq) s = .next (s.answered rq rest .ok (4 :: agentData)))) ∧
      (rq.code = 0x12 →
        (w.extractLsb' 0 8 = 1 → exec (.clearCounters rq) s = .next
          (({ s with laneCounters := ⟨⟨0, 0, 0, 0, 0, 0⟩, ⟨0, 0, 0, 0, 0, 0⟩, 0, 0, 0⟩ } : State).answered rq rest .ok
            (1 :: laneData))) ∧
        (w.extractLsb' 0 8 = 2 → exec (.clearCounters rq) s = .next
          (({ s with engineCounters := ⟨Vector.replicate 8 ⟨0, 0, 0⟩, 0, 0, 0⟩ } : State).answered rq rest .ok
            (2 :: engineData))) ∧
        (w.extractLsb' 0 8 = 3 → exec (.clearCounters rq) s = .next
          (({ s with holdCounters := ⟨0, 0, 0, 0⟩ } : State).answered rq rest .ok (3 :: holdData))) ∧
        (w.extractLsb' 0 8 = 4 → exec (.clearCounters rq) s = .next
          (({ s with requestDrops := 0, replays := 0 } : State).answered rq rest .ok (4 :: agentData))))) ∧
    ((∀ w, rq.operands = [w] → (w.extractLsb' 0 8).toNat = 0 ∨ 4 < (w.extractLsb' 0 8).toNat) →
      (rq.code = 0x11 → exec (.readCounters rq) s = .next (s.answered rq rest .badValue [])) ∧
      (rq.code = 0x12 → exec (.clearCounters rq) s = .next (s.answered rq rest .badValue [])))

/-- SET_PARAMETER and READ_PARAMETER (R175; the answer's word positions and the zero in bits 31-8 of its
word 0, the model's choice, log 10): BAD_INDEX for a code that names no parameter,
also in a request with a wrong operand count, which is tested after the code (log 7); BAD_VALUE for a value out of range, with the
parameter unchanged; else the parameter takes the value, and either request answers with the code and the value in force; nothing
else changes. -/
def Obligations.ParametersAreSetAndRead : Prop :=
  ∀ (s : State) (rq : Request) (rest : List Request), Takes s rq rest →
    (∀ w others, rq.operands = w :: others → (w.extractLsb' 0 8).toNat = 0 ∨ 4 < (w.extractLsb' 0 8).toNat →
      (rq.code = 0x13 → exec (.setParameter rq) s = .next (s.answered rq rest .badIndex [])) ∧
      (rq.code = 0x14 → exec (.readParameter rq) s = .next (s.answered rq rest .badIndex []))) ∧
    (∀ w v, rq.operands = [w, v] → rq.code = 0x13 →
      let code := w.extractLsb' 0 8
      let p := s.params
      let sets (q : Params) : Prop :=
        exec (.setParameter rq) s = .next (({ s with params := q } : State).answered rq rest .ok [0#24 ++ code, v])
      let refuses : Prop := exec (.setParameter rq) s = .next (s.answered rq rest .badValue [])
      (code = 1 → (1 ≤ v.toNat ∧ v.toNat ≤ 255 → sets { p with coalesceInterval := v.toNat }) ∧
        (v.toNat = 0 ∨ 255 < v.toNat → refuses)) ∧
      (code = 2 → (1 ≤ v.toNat ∧ v.toNat ≤ 32 → sets { p with noticeThreshold := v.toNat }) ∧
        (v.toNat = 0 ∨ 32 < v.toNat → refuses)) ∧
      (code = 3 → (v.toNat ≤ 1000 → sets { p with holdTimeout := v.toNat }) ∧ (1000 < v.toNat → refuses)) ∧
      (code = 4 → (v = 0 → sets { p with unmatched := .forward }) ∧ (v = 1 → sets { p with unmatched := .discard }) ∧
        (1 < v.toNat → refuses))) ∧
    (∀ w, rq.operands = [w] → rq.code = 0x14 →
      let code := w.extractLsb' 0 8
      let reads (n : Nat) : Prop :=
        exec (.readParameter rq) s = .next (s.answered rq rest .ok [0#24 ++ code, BitVec.ofNat 32 n])
      (code = 1 → reads s.params.coalesceInterval) ∧ (code = 2 → reads s.params.noticeThreshold) ∧
      (code = 3 → reads s.params.holdTimeout) ∧
      (code = 4 → s.params.unmatched = .forward → reads 0) ∧ (code = 4 → s.params.unmatched = .discard → reads 1))

/-- The three RESET scopes (R72, R109, R122, R142, R160, R177, R178, R179, R180), in a state whose deferred requests agree with
the commit phase and the hold: PIPELINE answers an abandoned COMMIT and then an abandoned RELEASE_HOLD ABORTED, drops and counts a
held frame, aborts the conversion, empties the path of DATA frames, decides the credit restart while A-receive is UP, and then
answers OK with its scope (its place in bits 7-0 and the zero in bits 31-8, log 10); EXCEPTIONS returns the exception unit to its
start and clears every sticky flag; ALL does both, and then resets tables, layouts, generation, runtime state, parameters and
counters.  A scope code that names none is answered BAD_VALUE, by whichever of the three rows takes the request (log 3).  An
ABORTED answer enters the tag cache (R172), that of a COMMIT noting whether an ENUMERATE was taken during the commit (R110;
log 24). -/
def Obligations.ResetsAct : Prop :=
  ∀ (s : State) (rq : Request) (rest : List Request) (w : Word), Takes s rq rest → DeferredAgree s → rq.code = 0x15 →
    rq.operands = [w] →
    let taken : State := { s with requests := rest }
    let noCommit : State :=
      match s.deferredCommit with
      | none => taken
      | some d =>
        let placed :=
          ({ taken with phase := .idle, pendingLayouts := none, deferredCommit := none, commitEnumerated := false } : State).answer
            d ⟨.aborted, []⟩
        let response : Response := ⟨s.nodeAddress, d.tag, d.code, .aborted, []⟩
        { placed with cache := cacheInsert s.cache ⟨d, response, s.commitEnumerated⟩ }
    let noHold : State :=
      if s.hold = .empty then noCommit
      else
        let dropped : State :=
          { noCommit with
            hold := .empty
            holdCounters := { s.holdCounters with discarded := satInc s.holdCounters.discarded } }
        match s.deferredRelease with
        | none => dropped
        | some d => ({ dropped with deferredRelease := none } : State).answer d ⟨.aborted, []⟩
    let emptied : State :=
      { noHold with
        engine := .idle, ingress := [], outQueue := []
        grants := if s.aRx.state = .up then
            .reset :: (List.replicate 8 .data ++ List.replicate (4 - s.transit.length) .control) else s.grants
        outstanding := if s.aRx.state = .up then 8 else s.outstanding }
    let cleared (t : State) : State :=
      { t with
        exc := ⟨[], 0, 0, false, .quiet, none, none, 0, none⟩
        sticky := Vector.replicate 128 ⟨false, false, false, false⟩
        runtime := t.runtime.map fun r => { r with lengthSticky := false } }
    (w.extractLsb' 0 8 = 1 → exec (.resetPipeline rq) s = .next (emptied.answer rq ⟨.ok, [1]⟩)) ∧
    (w.extractLsb' 0 8 = 2 → exec (.resetExceptions rq) s = .next ((cleared s).answered rq rest .ok [2])) ∧
    (w.extractLsb' 0 8 = 3 → exec (.resetAll rq) s = .next
      (({ cleared emptied with
          active := .reset, shadow := .reset, layouts := .none, generation := 0
          runtime := Vector.replicate 8 ⟨0, false, 0, false⟩, params := ⟨5, 8, 50, .forward⟩
          laneCounters := .zero, engineCounters := .zero, holdCounters := .zero, requestDrops := 0, replays := 0
        } : State).answer rq ⟨.ok, [3]⟩)) ∧
    (w.extractLsb' 0 8 ≠ 1 → w.extractLsb' 0 8 ≠ 2 → w.extractLsb' 0 8 ≠ 3 →
      exec (.resetPipeline rq) s = .next (s.answered rq rest .badValue []) ∧
      exec (.resetExceptions rq) s = .next (s.answered rq rest .badValue []) ∧
      exec (.resetAll rq) s = .next (s.answered rq rest .badValue []))

/-- The operand count (R168; its place among the tests, log 7): a command with operands that carries none is answered BAD_VALUE; one
that carries more than it takes is answered BAD_VALUE where its index is in range; CLEAR_STICKY, whose code is tested first, and
RESET, by any of its rows (log 3), with other than one operand are answered BAD_VALUE; nothing else changes. -/
def Obligations.OperandCountIsTested : Prop :=
  ∀ (s : State) (rq : Request) (rest : List Request), Takes s rq rest →
    let refused (i : Instr) : Prop := exec i s = .next (s.answered rq rest .badValue [])
    (rq.operands = [] →
      (rq.code = 0x04 → refused (.readChannel rq)) ∧ (rq.code = 0x06 → refused (.readStream rq)) ∧
      (rq.code = 0x08 → refused (.readClass rq)) ∧ (rq.code = 0x0B → refused (.readLayout rq)) ∧
      (rq.code = 0x0E → refused (.readSticky rq)) ∧ (rq.code = 0x13 → refused (.setParameter rq)) ∧
      (rq.code = 0x14 → refused (.readParameter rq))) ∧
    (∀ w x more, rq.operands = w :: x :: more →
      let low := (w.extractLsb' 0 8).toNat
      let high := (w.extractLsb' 8 8).toNat
      (rq.code = 0x04 → low ≤ 127 → refused (.readChannel rq)) ∧ (rq.code = 0x06 → low ≤ 7 → refused (.readStream rq)) ∧
      (rq.code = 0x08 → low ≤ 7 → refused (.readClass rq)) ∧
      (rq.code = 0x0B → high ≤ 7 → low ≤ 95 → refused (.readLayout rq)) ∧
      (rq.code = 0x0E → high ≤ 127 → refused (.readSticky rq)) ∧
      (rq.code = 0x13 → 1 ≤ low → low ≤ 4 → more ≠ [] → refused (.setParameter rq)) ∧
      (rq.code = 0x14 → 1 ≤ low → low ≤ 4 → refused (.readParameter rq))) ∧
    (∀ w, rq.operands = [w] → rq.code = 0x13 → 1 ≤ (w.extractLsb' 0 8).toNat → (w.extractLsb' 0 8).toNat ≤ 4 →
      refused (.setParameter rq)) ∧
    (rq.operands.length ≠ 1 → rq.code = 0x0F → refused (.clearSticky rq)) ∧
    (rq.operands.length ≠ 1 → rq.code = 0x15 →
      refused (.resetPipeline rq) ∧ refused (.resetExceptions rq) ∧ refused (.resetAll rq))

/-! ## Conversion arithmetic -/

/-- CHOP (R12): for |y| = m * 2^e with 1 ≤ m < 2 (here y counts units of 2^-4194, so m = |y| / 2^k and e = k - 4194), the rounded
significand, in units of 2^-(p-1), is the largest whole one not above m, it lies in 1 to 2 - 2^-(p-1), and e_r is e; an SR output
of 16777219 has e = 24 and m_r = 1 and stores the value 16777216. -/
def Obligations.ChopTruncates : Prop :=
  (∀ (f : RealFormat) (y : Int) (k : Nat), 2 ^ k ≤ y.natAbs → y.natAbs < 2 ^ (k + 1) →
    let r := roundReal f .chop y
    let p := f.precision
    r.sign = decide (y < 0) ∧ r.exponent = (k : Int) - 4194 ∧
    r.significand * 2 ^ k ≤ y.natAbs * 2 ^ (p - 1) ∧ y.natAbs * 2 ^ (p - 1) < (r.significand + 1) * 2 ^ k ∧
    2 ^ (p - 1) ≤ r.significand ∧ r.significand ≤ 2 ^ p - 1) ∧
  roundReal .sr .chop (16777219 * 2 ^ 4194) = ⟨false, 2 ^ 22, 24⟩ ∧
  (∀ (d : Descriptor) (input : List Word), d.rounding = .chop →
    ∃ w, settleReal d .sr input (16777219 * 2 ^ 4194) = ⟨[w], none⟩ ∧ (srFields w).value .sr = 16777216 * 2 ^ 2097)

/-- ROUND (R13): half a unit in the last place is added to m = |y| / 2^k and the sum cut to a whole number q of units; q = 2^p,
which is the significand 2 and happens exactly when m is at least 2 - 2^-p, carries out to the significand 1 with the exponent
raised; a magnitude exactly halfway goes to the larger neighbour, for either sign; 16777218 in SR gives 16777220 and its negative
the negative. -/
def Obligations.RoundTiesAway : Prop :=
  (∀ (f : RealFormat) (y : Int) (k : Nat), 2 ^ k ≤ y.natAbs → y.natAbs < 2 ^ (k + 1) →
    let r := roundReal f .round y
    let p := f.precision
    r.sign = decide (y < 0) ∧
    (∃ q, q * 2 ^ (k + 1) ≤ y.natAbs * 2 ^ p + 2 ^ k ∧ y.natAbs * 2 ^ p + 2 ^ k < (q + 1) * 2 ^ (k + 1) ∧
      (q = 2 ^ p ↔ (2 ^ (p + 1) - 1) * 2 ^ k ≤ y.natAbs * 2 ^ p) ∧
      (q = 2 ^ p → r.significand = 2 ^ (p - 1) ∧ r.exponent = (k : Int) - 4194 + 1) ∧
      (q ≠ 2 ^ p → r.significand = q ∧ r.exponent = (k : Int) - 4194)) ∧
    (∀ n, y.natAbs * 2 ^ p = (2 * n + 1) * 2 ^ k →
      r.significand * 2 ^ (r.exponent + 4194 - (k : Int)).toNat = n + 1)) ∧
  (∀ (d : Descriptor) (input : List Word), d.rounding = .round →
    (∃ w, settleReal d .sr input (16777218 * 2 ^ 4194) = ⟨[w], none⟩ ∧ (srFields w).value .sr = 16777220 * 2 ^ 2097) ∧
    ∃ w, settleReal d .sr input (-16777218 * 2 ^ 4194) = ⟨[w], none⟩ ∧ (srFields w).value .sr = -16777220 * 2 ^ 2097)

/-- The settling of a real slot (R11, R14, R18, R20, R37, R38; log 8): y = 0 gives every bit zero; else with B = e_r + bias in
range the word or words carry the sign, B and the fraction of the rounded result and no condition arises; B above the largest
field is OVERFLOW and below 1 UNDERFLOW, with the true exponent and the policy's action, and the policy stores exact zero, the
largest magnitude of the sign, or the wrap value, whose field is B modulo the period and which carries WRAPPED_TO_NULL exactly at
0.  A PLAIN channel with a real output settles its slot so (R10; what a sample gives as y, TrueExponentIsExact; the actions,
SlotIsSettled).  The constants of the formats are those of Tables 1-1 and 1-2, the fields of a real word stand as R190 says, and
its value, here in units of 2^-2097, is that of R4, R5 and R6. -/
def Obligations.RealSlotIsSettled : Prop :=
  (∀ f : RealFormat, (f.precision, f.bias, f.maxExponent, f.period) = match f with
    | .sr => (23, 255, 511, 512)
    | .lr => (52, 2047, 4095, 4096)) ∧
  (∀ f : Format, f.split = match f with
    | .i16 => .int .i16 | .ob16 => .int .ob16 | .i32 => .int .i32 | .sr => .real .sr | .lr => .real .lr) ∧
  (∀ w : Word, srFields w = ⟨w.getLsbD 31, (w.extractLsb' 22 9).toNat, (w.extractLsb' 0 22).toNat⟩) ∧
  (∀ hi lo : Word, lrFields (hi ++ lo) =
    ⟨hi.getLsbD 31, (hi.extractLsb' 19 12).toNat, (hi.extractLsb' 0 19).toNat * 2 ^ 32 + lo.toNat⟩) ∧
  (∀ (f : RealFormat) (x : RealFields), (x.value f : ℚ) / 2 ^ 2097 =
    if x.exponent = 0 then 0
    else (if x.sign then -1 else 1) * (1 + (x.fraction : ℚ) / 2 ^ (f.precision - 1)) * (2 : ℚ) ^ ((x.exponent : Int) - f.bias)) ∧
  (∀ (d : Descriptor) (f : RealFormat) (payload : List Word) (ch : Fin 128) (raw : List Word) (y : Int),
    d.mode = .plain → d.outputFormat.split = .real f → channelResult payload d = (some raw, some y) →
    settlePrimary payload ch d = settleReal d f raw y) ∧
  ∀ (d : Descriptor) (f : RealFormat) (input : List Word) (y : Int),
    let reads (words : List Word) (x : RealFields) : Prop :=
      match f with
      | .sr => ∃ w, words = [w] ∧ srFields w = x
      | .lr => ∃ hi lo, words = [hi, lo] ∧ lrFields (hi ++ lo) = x
    let r := roundReal f d.rounding y
    let b : Int := r.exponent + f.bias
    let fraction := r.significand - 2 ^ (f.precision - 1)
    let wrapped : RealFields := ⟨r.sign, (b % (f.period : Int)).toNat, fraction⟩
    let out := settleReal d f input y
    (y = 0 → out.condition = none ∧ reads out.stored ⟨false, 0, 0⟩) ∧
    (y ≠ 0 →
      (1 ≤ b → b ≤ f.maxExponent → out.condition = none ∧ reads out.stored ⟨r.sign, b.toNat, fraction⟩) ∧
      (f.maxExponent < b →
        out.condition = some ⟨.overflow, d.overflow.action, false, false,
          decide ((d.overflow = .wrap ∨ d.overflow = .divert) ∧ wrapped.exponent = 0), input, some r.trueExponent⟩ ∧
        (d.overflow = .zero → reads out.stored ⟨false, 0, 0⟩) ∧
        (d.overflow = .saturate → reads out.stored ⟨r.sign, f.maxExponent, 2 ^ (f.precision - 1) - 1⟩) ∧
        (d.overflow = .wrap ∨ d.overflow = .divert → reads out.stored wrapped)) ∧
      (b < 1 →
        out.condition = some ⟨.underflow, d.underflow.action, false, false,
          decide ((d.underflow = .wrap ∨ d.underflow = .divert) ∧ wrapped.exponent = 0), input, some r.trueExponent⟩ ∧
        (d.underflow = .zero → reads out.stored ⟨false, 0, 0⟩) ∧
        (d.underflow = .wrap ∨ d.underflow = .divert → reads out.stored wrapped)))

/-- Truncation (R15): whatever the rounding mode, the slot of a PLAIN channel with an integer output holds what its range policy
gives for N, the whole number of largest magnitude not above |y|, with the sign of y or 0: a magnitude below 1 gives 0, one
between 7 and 8 gives 7 or -7, and 2 - 2^-60 gives 1. -/
def Obligations.IntegersTruncate : Prop :=
  (∀ (d : Descriptor) (f : IntFormat) (payload : List Word) (ch : Fin 128) (raw : List Word) (y : Int),
    d.mode = .plain → d.outputFormat.split = .int f → channelResult payload d = (some raw, some y) →
    settlePrimary payload ch d = settleInteger d.range f false raw (wholePart y)) ∧
  (∀ y : Int,
    (wholePart y).natAbs * 2 ^ 4194 ≤ y.natAbs ∧ y.natAbs < ((wholePart y).natAbs + 1) * 2 ^ 4194 ∧
    (0 < wholePart y → 0 < y) ∧ (wholePart y < 0 → y < 0) ∧
    (y.natAbs < 2 ^ 4194 → wholePart y = 0) ∧
    (7 * 2 ^ 4194 ≤ y → y < 8 * 2 ^ 4194 → wholePart y = 7) ∧
    (-8 * 2 ^ 4194 < y → y ≤ -7 * 2 ^ 4194 → wholePart y = -7)) ∧
  wholePart (2 * 2 ^ 4194 - 2 ^ 4134) = 1

/-- The settling of an integer slot (R1, R2, R3, R16, R20, R39): N in the range of the format is written so that it reads back as N,
sign-extended for I16 and with a zero high half for OB16, with no condition; N outside it raises RANGE, with no exponent, and the
policy stores the value 0 or the limit on the side of N. -/
def Obligations.IntegerSlotIsSettled : Prop :=
  ∀ (p : RangePolicy) (f : IntFormat) (companion : Bool) (input : List Word) (n : Int),
    let least : Int := match f with | .i16 => -32768 | .ob16 => -32768 | .i32 => -2147483648
    let greatest : Int := match f with | .i16 => 32767 | .ob16 => 32767 | .i32 => 2147483647
    let holds (words : List Word) (v : Int) : Prop :=
      ∃ w, words = [w] ∧ match f with
        | .i16 => w.toInt = v
        | .ob16 => (w.toNat : Int) = v + 32768
        | .i32 => w.toInt = v
    let out := settleInteger p f companion input n
    (least ≤ n → n ≤ greatest → out.condition = none ∧ holds out.stored n) ∧
    (n < least ∨ greatest < n →
      out.condition = some ⟨.range, p.action, false, companion, false, input, none⟩ ∧
      (p = .zero → holds out.stored 0) ∧
      (p = .saturate ∨ p = .divert → holds out.stored (if n < least then least else greatest)))

/-- The value of a sample, the transform, and the true exponent (R1 to R9, R19, R190).  A sample at the channel's input position
that is no null input is read by its input format as the exact x, and y, here counted in units of 2^-4194, is exactly x * gain +
offset, with gain and offset read as LR values.  For every y that a sample, a gain and an offset can form, and for its fraction in
split mode, the exponent of the rounded result lies in -4194 to 4098, so the 16-bit field holds it exactly. -/
def Obligations.TrueExponentIsExact : Prop :=
  (∀ (payload : List Word) (d : Descriptor) (w : Word),
    let position : Nat := d.position
    let real (bias fractionBits : Nat) (sign : Bool) (exponent fraction : Nat) : ℚ :=
      if exponent = 0 then 0
      else (if sign then -1 else 1) * (1 + (fraction : ℚ) / 2 ^ fractionBits) * (2 : ℚ) ^ ((exponent : Int) - bias)
    let short (w : Word) : ℚ := real 255 22 (w.getLsbD 31) (w.extractLsb' 22 9).toNat (w.extractLsb' 0 22).toNat
    let long (hi lo : Word) : ℚ :=
      real 2047 51 (hi.getLsbD 31) (hi.extractLsb' 19 12).toNat ((hi.extractLsb' 0 19).toNat * 2 ^ 32 + lo.toNat)
    let constant (c : DoubleWord) : ℚ := long (c.extractLsb' 32 32) (c.extractLsb' 0 32)
    let isNull (hi : Word) (exponent : Nat) : Prop := exponent = 0 ∧ hi.getLsbD 31 = true
    let gives (raw : List Word) (x : ℚ) : Prop :=
      ∃ y : Int, channelResult payload d = (some raw, some y) ∧ (y : ℚ) / 2 ^ 4194 = x * constant d.gain + constant d.offset
    payload[position]? = some w → ¬ (d.gain.extractLsb' 51 12 = 0 ∧ d.gain.getLsbD 63 = true) →
    ¬ (d.offset.extractLsb' 51 12 = 0 ∧ d.offset.getLsbD 63 = true) →
    (d.inputFormat = .i16 → (∀ c, d.inputNull = some c → c.toInt ≠ (w.extractLsb' 0 16).toInt) →
      gives [w] (w.extractLsb' 0 16).toInt) ∧
    (d.inputFormat = .ob16 → (∀ c, d.inputNull = some c → c.toInt ≠ ((w.extractLsb' 0 16).toNat : Int)) →
      gives [w] ((w.extractLsb' 0 16).toNat - 32768)) ∧
    (d.inputFormat = .i32 → d.inputNull ≠ some w → gives [w] w.toInt) ∧
    (d.inputFormat = .sr → ¬ isNull w (w.extractLsb' 22 9).toNat → gives [w] (short w)) ∧
    (∀ lo, d.inputFormat = .lr → payload[position + 1]? = some lo → ¬ isNull w (w.extractLsb' 19 12).toNat →
      gives [w, lo] (long w lo))) ∧
  let bounded (y : Int) : Prop :=
    ∀ (f split : RealFormat) (mode : Rounding) (v : Int), v = y ∨ v = splitFraction split y → v ≠ 0 →
      let r := roundReal f mode v
      (-4194 : Int) ≤ r.exponent ∧ r.exponent ≤ 4098 ∧ r.trueExponent.toInt = r.exponent
  (∀ (payload : List Word) (d : Descriptor) (raw : List Word) (y : Int),
    channelResult payload d = (some raw, some y) → bounded y) ∧
  ∀ (inputFormat : Format) (nullCode : Option Word) (raw : List Word) (x : Int) (gain offset : DoubleWord),
    decodeSample inputFormat nullCode raw = some x → bounded (transform x (lrValue gain) (lrValue offset))

/-- Split mode (R22, R23, R24): below 2^p the whole part N, y truncated toward zero, and the fraction g add up to y, with |g|
below 1 and the sign of y; from 2^p on g is zero; g is encoded by the real encoding of the split channel and raises no OVERFLOW; N
is encoded in the slot of the companion under its own format and range policy, as a companion's condition. -/
def Obligations.SplitPartsAddUp : Prop :=
  ∀ (b : Bank) (payload : List Word) (ch : Fin 128) (f : RealFormat) (raw : List Word) (y : Int),
    let d := b.channel ch
    let n := wholePart y
    let g := splitFraction f y
    d.kind = .primary → d.mode = .split → d.outputFormat.split = .real f →
    channelResult payload d = (some raw, some y) →
    (y.natAbs < 2 ^ (f.precision + 4194) →
      n * 2 ^ 4194 + g = y ∧ g.natAbs < 2 ^ 4194 ∧ (0 ≤ y → 0 ≤ g) ∧ (y ≤ 0 → g ≤ 0)) ∧
    (2 ^ (f.precision + 4194) ≤ y.natAbs → g = 0) ∧
    settlePrimary payload ch d = settleReal d f raw g ∧
    (∀ k, (settlePrimary payload ch d).condition = some k → k.cls = .underflow) ∧
    (∀ (k : Fin 128) (h : IntFormat), d.companion = some k → (b.channel k).outputFormat.split = .int h →
      (∀ j : Fin 128, j < ch →
        ¬ ((b.channel j).kind = .primary ∧ (b.channel j).mode = .split ∧ (b.channel j).companion = some k)) →
      settleCompanion b payload k (b.channel k) = settleInteger (b.channel k).range h true raw n)

/-- Null inputs (R7, R8, R40, R41, R42): an absent sample, a marked null of a real input, and an integer sample equal to the input
null code give the condition NULL_INPUT, with the words as received (none, and ABSENT, for an absent sample), and the null policy
stores its value in the channel's slot, and in a split channel's companion's slot too, which gets no condition.  The value (R20,
R21, R34): ZERO stores exact zero in a real slot and the value 0 in an integer one; PROPAGATE and DIVERT store the marked null,
sign 1 and every other bit zero, or the output null code, written so that it reads back as the code. -/
def Obligations.NullInputsAreSettled : Prop :=
  (∀ (b : Bank) (payload : List Word) (ch : Fin 128),
    let d := b.channel ch
    let position : Nat := d.position
    let nullAs (absent : Bool) (input : List Word) : Prop :=
      settlePrimary payload ch d =
        ⟨nullSettledWords d.null ch d, some ⟨.nullInput, d.null.action, absent, false, false, input, none⟩⟩ ∧
      ∀ k : Fin 128, d.kind = .primary → d.mode = .split → d.companion = some k →
        (∀ j : Fin 128, j < ch →
          ¬ ((b.channel j).kind = .primary ∧ (b.channel j).mode = .split ∧ (b.channel j).companion = some k)) →
        settleCompanion b payload k (b.channel k) = ⟨nullSettledWords d.null k (b.channel k), none⟩
    (payload.length ≤ position ∨ d.inputFormat = .lr ∧ payload.length ≤ position + 1 → nullAs true []) ∧
    (∀ w, payload[position]? = some w →
      (d.inputFormat = .sr → w.extractLsb' 22 9 = 0 → w.getLsbD 31 = true → nullAs false [w]) ∧
      (∀ lo, d.inputFormat = .lr → payload[position + 1]? = some lo → w.extractLsb' 19 12 = 0 → w.getLsbD 31 = true →
        nullAs false [w, lo]) ∧
      (∀ c, d.inputNull = some c →
        (d.inputFormat = .i16 → (w.extractLsb' 0 16).toInt = c.toInt → nullAs false [w]) ∧
        (d.inputFormat = .ob16 → ((w.extractLsb' 0 16).toNat : Int) = c.toInt → nullAs false [w]) ∧
        (d.inputFormat = .i32 → w = c → nullAs false [w])))) ∧
  ∀ (p : NullPolicy) (ch : Fin 128) (d : Descriptor),
    (p = .zero → nullSettledWords p ch d = match d.outputFormat with
      | .i16 => [0#32] | .ob16 => [32768#32] | .i32 => [0#32] | .sr => [0#32] | .lr => [0#32, 0#32]) ∧
    (p ≠ .zero →
      (d.outputFormat = .sr → nullSettledWords p ch d = [0x80000000#32]) ∧
      (d.outputFormat = .lr → nullSettledWords p ch d = [0x80000000#32, 0#32]) ∧
      (∀ c, d.outputNull = some c → (d.outputFormat = .i16 ∧ -32768 ≤ c.toInt ∧ c.toInt ≤ 32767 ∨
          d.outputFormat = .ob16 ∧ 0 ≤ c.toInt ∧ c.toInt ≤ 65535 ∨ d.outputFormat = .i32) →
        ∃ w, nullSettledWords p ch d = [w] ∧
          (d.outputFormat = .i16 → w.toInt = c.toInt) ∧
          (d.outputFormat = .ob16 → (w.toNat : Int) = c.toInt) ∧
          (d.outputFormat = .i32 → w = c)))

/-! ## Images, layouts, validation -/

/-- Images of records (Tables 11-4, 11-7; R32, R33, R34, R35, R36, R191, R192): an image names a record exactly when it has the
right number of words, each field stands at its bits with a code of the record's value, and the record meets the checks, so that a
code that names no value and a field out of its range name none; the image of a record that meets the checks names that record
again; and a written image has zero in its unnamed bits and where an optional field is absent. -/
def Obligations.RecordImagesRoundTrip : Prop :=
  let isNull (c : DoubleWord) : Prop := c.extractLsb' 51 12 = 0 ∧ c.getLsbD 63 = true
  let codeFits (f : Format) (c : Word) : Prop :=
    match f with
    | .i16 => -32768 ≤ c.toInt ∧ c.toInt ≤ 32767
    | .ob16 => 0 ≤ c.toInt ∧ c.toInt ≤ 65535
    | .i32 => True
    | .sr => False
    | .lr => False
  let fits (d : Descriptor) : Prop :=
    ¬ isNull d.gain ∧ ¬ isNull d.offset ∧ ¬ (d.inputFormat = .lr ∧ d.position = 63) ∧
    ¬ (d.kind = .companion ∧ (d.outputFormat = .sr ∨ d.outputFormat = .lr)) ∧ (d.companion.isSome ↔ d.mode = .split) ∧
    (∀ c, d.inputNull = some c → codeFits d.inputFormat c) ∧ ∀ c, d.outputNull = some c → codeFits d.outputFormat c
  let kindCode (k : ChannelKind) : Nat := match k with | .disabled => 0 | .primary => 1 | .companion => 2
  let formatCode (f : Format) : Nat := match f with | .i16 => 0 | .ob16 => 1 | .i32 => 2 | .sr => 3 | .lr => 4
  let overflowCode (p : OverflowPolicy) : Nat := match p with | .zero => 0 | .saturate => 1 | .wrap => 2 | .divert => 4
  let underflowCode (p : UnderflowPolicy) : Nat := match p with | .zero => 0 | .wrap => 2 | .divert => 4
  let rangeCode (p : RangePolicy) : Nat := match p with | .zero => 0 | .saturate => 1 | .divert => 4
  let nullCode (p : NullPolicy) : Nat := match p with | .zero => 0 | .propagate => 3 | .divert => 4
  let alignmentWords (a : Machine.Alignment) : Nat := match a with | .one => 1 | .two => 2 | .four => 4 | .eight => 8
  (∀ (w0 w1 w2 w3 w4 w5 w6 w7 : Word) (d : Descriptor), decodeDescriptor [w0, w1, w2, w3, w4, w5, w6, w7] = some d ↔
    (w0.extractLsb' 30 2).toNat = kindCode d.kind ∧ (w0.getLsbD 29 = true ↔ d.mode = .split) ∧
    (w0.getLsbD 28 = true ↔ d.rounding = .chop) ∧ (w0.extractLsb' 24 4).toNat = d.stream.val ∧
    (w0.extractLsb' 20 4).toNat = d.outputClass.val ∧ (w0.extractLsb' 17 3).toNat = formatCode d.inputFormat ∧
    (w0.extractLsb' 14 3).toNat = formatCode d.outputFormat ∧ (w0.extractLsb' 7 7).toNat = d.position.val ∧
    (w0.getLsbD 6 = true ↔ d.report = .every) ∧ w0.getLsbD 5 = d.inputNull.isSome ∧ w0.getLsbD 4 = d.outputNull.isSome ∧
    w0.getLsbD 3 = d.companion.isSome ∧
    (w1.extractLsb' 28 4).toNat = overflowCode d.overflow ∧ (w1.extractLsb' 24 4).toNat = underflowCode d.underflow ∧
    (w1.extractLsb' 20 4).toNat = rangeCode d.range ∧ (w1.extractLsb' 16 4).toNat = nullCode d.null ∧
    (∀ k, d.companion = some k → (w1.extractLsb' 8 8).toNat = k.val) ∧
    (∀ c, d.inputNull = some c → w2 = c) ∧ (∀ c, d.outputNull = some c → w3 = c) ∧
    d.gain = w4 ++ w5 ∧ d.offset = w6 ++ w7 ∧ fits d) ∧
  (∀ image, image.length ≠ 8 → decodeDescriptor image = none) ∧
  (∀ d : Descriptor, fits d → decodeDescriptor (encodeDescriptor d) = some d) ∧
  (∀ d : Descriptor, ∃ w0 w1 w2 w3 w4 w5 w6 w7, encodeDescriptor d = [w0, w1, w2, w3, w4, w5, w6, w7] ∧
    w0.extractLsb' 0 3 = 0 ∧ w1.extractLsb' 0 8 = 0 ∧ (d.companion = none → w1.extractLsb' 8 8 = 0) ∧
    (d.inputNull = none → w2 = 0) ∧ (d.outputNull = none → w3 = 0)) ∧
  (∀ (w : Word) (r : StreamRecord), decodeStream [w] = some r ↔
    (w.extractLsb' 30 2).toNat = (if r.enabled then 1 else 0) ∧ w.extractLsb' 16 8 = r.inputId ∧
    w.extractLsb' 8 8 = r.outputId ∧ (w.extractLsb' 0 8).toNat = r.declared ∧ 1 ≤ r.declared ∧ r.declared ≤ 64) ∧
  (∀ image, image.length ≠ 1 → decodeStream image = none ∧ decodeClass image = none) ∧
  (∀ r : StreamRecord, 1 ≤ r.declared → r.declared ≤ 64 → decodeStream (encodeStream r) = some r) ∧
  (∀ r : StreamRecord, ∃ w, encodeStream r = [w] ∧ w.extractLsb' 24 6 = 0) ∧
  (∀ (w : Word) (r : ClassRecord), decodeClass [w] = some r ↔
    (w.extractLsb' 24 8).toNat = alignmentWords r.alignment ∧ (w.extractLsb' 8 8).toNat = r.memberLimit ∧
    (w.extractLsb' 0 8).toNat = r.rank.val ∧ r.memberLimit ≤ 96) ∧
  (∀ r : ClassRecord, r.memberLimit ≤ 96 → decodeClass (encodeClass r) = some r) ∧
  (∀ r : ClassRecord, ∃ w, encodeClass r = [w] ∧ w.extractLsb' 16 8 = 0)

/-- The layout of the frames and records that the part produces (Tables 11-2, 11-3, 11-6; R188, R189, R194): each named field
stands at its bits, every unnamed bit is zero (those of a record image, log 25), and the word count is that of the words that
follow; with its CRC word a frame (DATA, RESPONSE, REPORT, ENUMERATE, NOTICE) passes the checks of R148 as a frame of its kind, a
conditioned one up to 64 payload words.  Statuses, record classes, actions, notice reasons and hold states have the codes of Table
11-7. -/
def Obligations.FramesAreLaidOut : Prop :=
  (∀ x : Status, x.code = match x with
    | .ok => 0#8 | .busy => 1#8 | .badCommand => 2#8 | .badIndex => 3#8 | .badValue => 4#8 | .stale => 5#8 | .notHeld => 6#8
    | .inProgress => 7#8 | .aborted => 8#8 | .commitFailed => 9#8) ∧
  (∀ x : RecordClass, x.code = match x with
    | .channel .overflow => 1#4 | .channel .underflow => 2#4 | .channel .range => 3#4 | .channel .nullInput => 4#4
    | .length => 5#4 | .holdBusy => 6#4) ∧
  (∀ x : Action, x.code = match x with
    | .zero => 0#4 | .saturate => 1#4 | .wrap => 2#4 | .propagate => 3#4 | .diverted => 4#4 | .none => 5#4) ∧
  (∀ x : NoticeReason, x.code = match x with | .threshold => 1#8 | .interval => 2#8 | .reminder => 3#8) ∧
  (∀ x : Hold, x.code = match x with | .empty => 0#8 | .held _ _ => 1#8 | .releasing _ _ => 2#8) ∧
  let passes (k : FrameKind) (ws : List Word) : Prop :=
    (Assembly.mk (ws ++ [crcOf ws]) false false).verdict = .pass k ⟨ws⟩
  (∀ c : CondFrame, c.payload.length ≤ 96 →
    ∃ w, c.words = [w, c.inputSeq ++ c.outputSeq, c.timestamp, c.generation ++ 0#16] ++ c.payload ∧
      w.extractLsb' 28 4 = 1 ∧ w.getLsbD 27 = true ∧ w.getLsbD 26 = c.exception ∧ w.getLsbD 25 = c.gap ∧
      w.getLsbD 24 = c.released ∧ w.getLsbD 23 = c.timedOut ∧ w.getLsbD 22 = c.refused ∧ w.extractLsb' 16 6 = c.node ∧
      w.extractLsb' 8 8 = c.outputId ∧ (w.extractLsb' 0 8).toNat = c.payload.length ∧
      (c.payload.length ≤ 64 → passes .data c.words)) ∧
  (∀ r : Response, r.data.length ≤ 96 →
    ∃ w, r.words = [w, 0#16 ++ r.code ++ r.status.code] ++ r.data ∧
      w.extractLsb' 28 4 = 3 ∧ w.extractLsb' 22 6 = r.source ∧ w.extractLsb' 16 6 = 0 ∧ w.extractLsb' 8 8 = r.tag ∧
      (w.extractLsb' 0 8).toNat = r.data.length ∧ passes .response r.words) ∧
  (∀ a : Address, (AgentFrame.report a).words =
      [6#4 ++ a ++ 0#14 ++ 3#8, 0x0A316120#32, 1#8 ++ 0#2 ++ a ++ 128#16, 0x88840020#32] ∧
    passes .report (AgentFrame.report a).words) ∧
  (∀ a : Address, (enumerateFrame a).words = [5#4 ++ 0#6 ++ 0#14 ++ 1#8, 0#26 ++ a] ∧
    passes .enumerate (enumerateFrame a).words) ∧
  (∀ (reason : NoticeReason) (a : Address) (x : ExceptionUnit) (hold : Hold), x.queue.length ≤ 32 →
    let sequences (w : Word) : Prop :=
      match x.queue.head?, x.queue.getLast? with
      | some oldest, some newest => w = oldest.seq ++ newest.seq
      | _, _ => w = 0
    ∃ w, sequences w ∧
      noticeWords reason a x hold =
        [4#4 ++ a ++ 0#14 ++ 3#8,
         reason.code ++ hold.code ++ BitVec.ofBool (decide (x.queue ≠ [])) ++ 0#7 ++ BitVec.ofNat 8 x.queue.length, w,
         x.lost &&& 0xFFFF#32] ∧
      passes .notice (noticeWords reason a x hold)) ∧
  (∀ r : ExceptionRecord, r.inputValue.length ≤ 2 → r.storedValue.length ≤ 2 → r.exponent = none ∨ r.counts = none →
    ∃ w0 w2 later, r.words = [w0, r.generation ++ r.inputSeq, w2] ++ (r.inputValue ++ r.storedValue ++ later) ∧
      later = (match r.exponent, r.counts with
        | some e, _ => [e.signExtend 32]
        | none, some (declared, received) => [declared ++ received]
        | none, none => []) ∧
      w0.extractLsb' 16 16 = r.seq ∧ w0.extractLsb' 12 4 = r.cls.code ∧ w0.extractLsb' 8 4 = r.action.code ∧
      w0.getLsbD 7 = r.lossBefore ∧ w0.getLsbD 6 = r.absent ∧ w0.getLsbD 5 = r.companion ∧
      w0.getLsbD 4 = r.wrappedToNull ∧ (w0.extractLsb' 0 4).toNat = r.words.length ∧
      w2.getLsbD 31 = r.channel.isSome ∧ (∀ ch, r.channel = some ch → (w2.extractLsb' 24 7).toNat = ch.val) ∧
      (r.channel = none → w2.extractLsb' 24 7 = 0) ∧ (w2.extractLsb' 22 2).toNat = r.inputValue.length ∧
      (w2.extractLsb' 20 2).toNat = r.storedValue.length ∧ w2.getLsbD 19 = false ∧
      (w2.extractLsb' 16 3).toNat = r.stream.val ∧ w2.extractLsb' 0 16 = 0)

/-- The compiled layout of a stream (R78, R79, R80, R81, R83, R84, R85, R86): a set of compiled layouts holds one for each enabled
stream record of its bank and none for a disabled one; each member has one slot of its width and role, in the order of
class rank, class number and channel number; the first slot stands at word 0, a slot follows the one before it in its class without
a gap, and the first of a class at the smallest whole multiple of the class alignment not below it; the length is the end of the
last slot, and in a bank that passes validation at most 96 words. -/
def Obligations.LayoutIsPlaced : Prop :=
  ∀ (b : Bank) (i : Fin 8),
    let l := compileStream b i
    let cls (e : SlotEntry) : Fin 8 := (b.channel e.channel).outputClass
    let rank (e : SlotEntry) : Fin 8 := (b.classRecord (cls e)).rank
    (∀ ch : Fin 128, ch ∈ l.entries.map (·.channel) ↔
      (b.channel ch).kind ≠ .disabled ∧ (b.channel ch).stream = i) ∧
    (l.entries.map (·.channel)).Nodup ∧
    (∀ e ∈ l.entries,
      e.width = (if (b.channel e.channel).outputFormat = .lr then 2 else 1) ∧
      (e.role = .companion ↔ (b.channel e.channel).kind = .companion)) ∧
    l.entries.Pairwise (fun e later =>
      rank e < rank later ∨ rank e = rank later ∧ (cls e < cls later ∨ cls e = cls later ∧ e.channel < later.channel)) ∧
    (∀ e, l.entries.head? = some e → e.offset = 0) ∧
    (∀ k (h : k + 1 < l.entries.length),
      let e := l.entries[k]
      let next := l.entries[k + 1]
      let align := (b.classRecord (cls next)).alignment.words
      (cls next = cls e → next.offset = e.offset + e.width) ∧
      (cls next ≠ cls e → align ∣ next.offset ∧ e.offset + e.width ≤ next.offset ∧
        next.offset < e.offset + e.width + align)) ∧
    (∀ e, l.entries.getLast? = some e → l.length = e.offset + e.width) ∧
    (l.entries = [] → l.length = 0) ∧
    (validate b = none → (b.stream i).enabled = true → l.length ≤ 96) ∧
    (compileLayouts b).get i = if (b.stream i).enabled then some l else none

/-- Validation of a bank (R82, R83, R97, R98, R99, R100, R101, R102, R103): the fault reported is the first that holds in the
order of the phases, within a phase in ascending index, and for one record in the order of its checks, with its reason, index and
stream; a bank passes exactly when no check fails.  In the first phase (R98) an enabled stream record whose input stream id equals
that of an enabled record of lower index fails the commit with DUPLICATE_STREAM and its own index, the least such index of all;
output stream ids and declared counts are not compared, so nothing else gives this reason. -/
def Obligations.DuplicateStreamIsFound : Prop :=
  ∀ b : Bank,
    let offends (i : Fin 8) : Prop :=
      (b.stream i).enabled = true ∧
        ∃ j : Fin 8, j < i ∧ (b.stream j).enabled = true ∧ (b.stream j).inputId = (b.stream i).inputId
    (∀ i : Fin 8, offends i → (∀ j : Fin 8, j < i → ¬ offends j) →
      validate b = some ⟨.duplicateStream, i, none⟩) ∧
    (∀ fault, validate b = some fault → fault.reason = .duplicateStream →
      ∃ i : Fin 8, offends i ∧ (∀ j : Fin 8, j < i → ¬ offends j) ∧ fault = ⟨.duplicateStream, i, none⟩) ∧
    let reads (d : Descriptor) (position : Nat) : Prop :=
      d.position.val = position ∨ d.inputFormat = .lr ∧ d.position.val + 1 = position
    let splits (d : Descriptor) : Prop := d.kind = .primary ∧ d.mode = .split
    let real (d : Descriptor) : Prop := d.outputFormat = .sr ∨ d.outputFormat = .lr
    let streamCheck (i : Fin 8) : CommitFault × Prop := (⟨.duplicateStream, i, none⟩, offends i)
    let channelChecks (ch : Fin 128) : List (CommitFault × Prop) :=
      let d := b.channel ch
      let check (reason : CommitReason) (fails : Prop) : CommitFault × Prop := (⟨reason, ch, some d.stream⟩, fails)
      [check .badStreamRef (d.kind ≠ .disabled ∧ (b.stream d.stream).enabled = false),
       check .positionRange (d.kind = .primary ∧
        (b.stream d.stream).declared < d.position.val + (if d.inputFormat = .lr then 2 else 1)),
       check .positionOverlap (d.kind = .primary ∧ ∃ j : Fin 128, j < ch ∧ (b.channel j).kind = .primary ∧
        (b.channel j).stream = d.stream ∧ ∃ position, reads d position ∧ reads (b.channel j) position),
       check .badSplit (splits d ∧ ¬ real d),
       check .companionMissing (splits d ∧ ∀ k, d.companion = some k → (b.channel k).kind ≠ .companion),
       check .companionStream (splits d ∧ ∃ k, d.companion = some k ∧ (b.channel k).stream ≠ d.stream),
       check .companionShared (splits d ∧ ∃ k, d.companion = some k ∧
        ∃ j : Fin 128, j < ch ∧ splits (b.channel j) ∧ (b.channel j).companion = some k),
       check .nullCodeRequired (d.kind = .primary ∧ d.null ≠ .zero ∧
        (d.mode = .plain ∧ ¬ real d ∧ d.outputNull = none ∨
         d.mode = .split ∧ ∀ k, d.companion = some k → (b.channel k).outputNull = none))]
    let companionCheck (ch : Fin 128) : CommitFault × Prop :=
      (⟨.companionOrphan, ch, some (b.channel ch).stream⟩,
        (b.channel ch).kind = .companion ∧ ∀ j, ¬ (splits (b.channel j) ∧ (b.channel j).companion = some ch))
    let members (i c : Fin 8) : List (Fin 128) :=
      (List.finRange 128).filter fun ch =>
        decide ((b.channel ch).kind ≠ .disabled ∧ (b.channel ch).stream = i ∧ (b.channel ch).outputClass = c)
    let layoutChecks (classes : List (Fin 8)) (i : Fin 8) : List (CommitFault × Prop) :=
      (classes.map fun c => (⟨.classFull, c, some i⟩,
        (b.stream i).enabled = true ∧ (b.classRecord c).memberLimit < (members i c).length)) ++
      [(⟨.layoutFull, i, some i⟩, (b.stream i).enabled = true ∧ 96 < (compileStream b i).length)]
    ∀ classes : List (Fin 8), classes.Nodup → (∀ c, c ∈ classes) →
      classes.Pairwise (fun c later => (b.classRecord c).rank < (b.classRecord later).rank ∨
        (b.classRecord c).rank = (b.classRecord later).rank ∧ c < later) →
      let checks : List (CommitFault × Prop) :=
        (List.finRange 8).map streamCheck ++ (List.finRange 128).flatMap channelChecks ++
        (List.finRange 128).map companionCheck ++ (List.finRange 8).flatMap (layoutChecks classes)
      (∀ fault, validate b = some fault ↔
        ∃ before fails after, checks = before ++ (fault, fails) :: after ∧ fails ∧ ∀ c ∈ before, ¬ c.2) ∧
      (validate b = none ↔ ∀ c ∈ checks, ¬ c.2)

/-! ## What every step keeps -/

/-- Every step keeps every queue, FIFO, buffer and credit counter within its capacity, the node address in 0-62, and the credits
honest: the outstanding count never exceeds the free ingress entries (R57, R127, R151, R152, R154, R155, R158, R159, R163, R167,
R170, R172). -/
def Obligations.BoundsAreKept : Prop :=
  ∀ s t : State, WithinCapacity s → CreditsHonest s → step s = .next t → WithinCapacity t ∧ CreditsHonest t

/-- Every step keeps the parameters and timers in their ranges, each notice state with its own timer and records to announce, the
sequence numbers of the queued records consecutive, and the tag cache at one entry for each tag (R115, R127, R134, R135, R137, R172,
R175; Table 7-3). -/
def Obligations.NoticesAndCacheAreKept : Prop :=
  ∀ s t : State, TimersInRange s → NoticeConsistent s.exc → RecordsConsecutive s.exc → CacheSound s → step s = .next t →
    TimersInRange t ∧ NoticeConsistent t.exc ∧ RecordsConsecutive t.exc ∧ CacheSound t

/-- Every step keeps the deferred requests in agreement with the commit phase and the hold, the answer list at 3 frames at most, the
frame under conversion at the head of the ingress buffer with the generation and layout of the tables in force, and the active
layouts those of an active bank that passes validation (R58, R60, R66, R86, R94, R97, R103, R105, R107, R111, R170, R171). -/
def Obligations.CommitAndEngineAgree : Prop :=
  ∀ s t : State, DeferredAgree s → AnswersBounded s → EngineConsistent s → TablesCompiled s → step s = .next t →
    DeferredAgree t ∧ AnswersBounded t ∧ EngineConsistent t ∧ TablesCompiled t

/-- Everything that the three statements above keep holds after device reset (R180). -/
def Obligations.ResetStateIsSafe : Prop :=
  WithinCapacity State.reset ∧ CreditsHonest State.reset ∧ TimersInRange State.reset ∧ NoticeConsistent State.reset.exc ∧
  RecordsConsecutive State.reset.exc ∧ CacheSound State.reset ∧ DeferredAgree State.reset ∧ AnswersBounded State.reset ∧
  EngineConsistent State.reset ∧ TablesCompiled State.reset

/-- Who changes what (Figure 2; R93, R96, R163, R165, R175): the generation and the active bank change only by a swap or by a
device reset or RESET ALL, and after leaving 0 the generation returns to 0 only by these two; the shadow bank changes only by the
writes and COPY_ACTIVE, in phase IDLE, and by these two; the sticky flags only by a slot, CLEAR_STICKY and the resets; the
parameters only by SET_PARAMETER and these two; the node address only by an enumeration (log 4) and a device reset. -/
def Obligations.OnlyNamedEventsChange : Prop :=
  ∀ (s t : State),
    (∀ i, exec i s = .next t →
      let resetsAll : Prop := i = .deviceReset ∨ ∃ rq, i = .resetAll rq
      (t.generation ≠ s.generation ∨ t.active ≠ s.active → i = .swap ∨ resetsAll) ∧
      (s.generation ≠ 0 → t.generation = 0 → resetsAll) ∧
      (t.shadow ≠ s.shadow → resetsAll ∨ s.phase = .idle ∧
        ∃ rq, i = .writeChannel rq ∨ i = .writeStream rq ∨ i = .writeClass rq ∨ i = .copyActive rq) ∧
      (t.sticky ≠ s.sticky → resetsAll ∨ i = .slotConversion ∨ ∃ rq, i = .clearSticky rq ∨ i = .resetExceptions rq) ∧
      (t.params ≠ s.params → resetsAll ∨ ∃ rq, i = .setParameter rq) ∧
      (t.nodeAddress ≠ s.nodeAddress → i = .deviceReset ∨ i = .cReceiveFrameEnd ∨ ∃ a, i = .enumerate a)) ∧
    (s.pending = [] → step s = .next t →
      t.generation = s.generation ∧ t.active = s.active ∧ t.shadow = s.shadow ∧ t.sticky = s.sticky ∧
      t.params = s.params ∧ t.nodeAddress = s.nodeAddress)
end

