-- ==== Sys2Proof/Laws/Arith.lean ====
section
/-! SUPPORT. Lemmas about rounding and truncation, which proofs cite instead of unfolding the arithmetic. -/

namespace Sys2Proof.Machine

/-- The normalisation of y finds its k. -/
theorem log2_eq_of_bounds {n k : Nat} (h1 : 2 ^ k ≤ n) (h2 : n < 2 ^ (k + 1)) : n.log2 = k := by
  have hn : n ≠ 0 := by have := Nat.two_pow_pos k; omega
  exact (Nat.log2_eq_iff hn).2 ⟨h1, h2⟩

/-- What rounding answers, by the k of y. -/
theorem roundReal_eq {f : RealFormat} {mode : Rounding} {y : Int} {k : Nat} (h1 : 2 ^ k ≤ y.natAbs)
    (h2 : y.natAbs < 2 ^ (k + 1)) :
    roundReal f mode y =
      if cutSignificand f mode y.natAbs k = 2 ^ (f.fractionBits + 1) then
        ⟨decide (y < 0), 2 ^ f.fractionBits, (k : Int) - resultScale + 1⟩
      else ⟨decide (y < 0), cutSignificand f mode y.natAbs k, (k : Int) - resultScale⟩ := by
  simp only [roundReal, log2_eq_of_bounds h1 h2]

/-- The magnitude of N is that of y cut to whole numbers. -/
theorem wholePart_natAbs (y : Int) : (wholePart y).natAbs = y.natAbs / 2 ^ resultScale := by
  unfold wholePart
  generalize resultScale = n
  simp only [Int.natAbs_tdiv, Int.natAbs_pow]
  rfl

/-- N has the sign of y, or is 0. -/
theorem wholePart_nonneg {y : Int} (h : 0 ≤ y) : 0 ≤ wholePart y := Int.tdiv_nonneg h (by positivity)

end Sys2Proof.Machine
end

