-- ==== Sys2Proof/Laws/State.lean ====
section
/-! SUPPORT. What each named update of the state leaves as it was: one lemma per field. -/

namespace Sys2Proof.Machine

variable (s : State)

/-! ## `State.setRx` changes the receive lanes alone -/

@[simp] theorem State.setRx_aTx (side : Side) (r : RxLane) : (s.setRx side r).aTx = s.aTx := by cases side <;> rfl
@[simp] theorem State.setRx_cTx (side : Side) (r : RxLane) : (s.setRx side r).cTx = s.cTx := by cases side <;> rfl
@[simp] theorem State.setRx_dataCredits (side : Side) (r : RxLane) : (s.setRx side r).dataCredits = s.dataCredits := by cases side <;> rfl
@[simp] theorem State.setRx_controlCredits (side : Side) (r : RxLane) : (s.setRx side r).controlCredits = s.controlCredits := by cases side <;> rfl
@[simp] theorem State.setRx_outstanding (side : Side) (r : RxLane) : (s.setRx side r).outstanding = s.outstanding := by cases side <;> rfl
@[simp] theorem State.setRx_grants (side : Side) (r : RxLane) : (s.setRx side r).grants = s.grants := by cases side <;> rfl
@[simp] theorem State.setRx_lastCreditSent (side : Side) (r : RxLane) : (s.setRx side r).lastCreditSent = s.lastCreditSent := by cases side <;> rfl
@[simp] theorem State.setRx_ingress (side : Side) (r : RxLane) : (s.setRx side r).ingress = s.ingress := by cases side <;> rfl
@[simp] theorem State.setRx_transit (side : Side) (r : RxLane) : (s.setRx side r).transit = s.transit := by cases side <;> rfl
@[simp] theorem State.setRx_forward (side : Side) (r : RxLane) : (s.setRx side r).forward = s.forward := by cases side <;> rfl
@[simp] theorem State.setRx_outQueue (side : Side) (r : RxLane) : (s.setRx side r).outQueue = s.outQueue := by cases side <;> rfl
@[simp] theorem State.setRx_active (side : Side) (r : RxLane) : (s.setRx side r).active = s.active := by cases side <;> rfl
@[simp] theorem State.setRx_shadow (side : Side) (r : RxLane) : (s.setRx side r).shadow = s.shadow := by cases side <;> rfl
@[simp] theorem State.setRx_layouts (side : Side) (r : RxLane) : (s.setRx side r).layouts = s.layouts := by cases side <;> rfl
@[simp] theorem State.setRx_pendingLayouts (side : Side) (r : RxLane) : (s.setRx side r).pendingLayouts = s.pendingLayouts := by cases side <;> rfl
@[simp] theorem State.setRx_generation (side : Side) (r : RxLane) : (s.setRx side r).generation = s.generation := by cases side <;> rfl
@[simp] theorem State.setRx_phase (side : Side) (r : RxLane) : (s.setRx side r).phase = s.phase := by cases side <;> rfl
@[simp] theorem State.setRx_engine (side : Side) (r : RxLane) : (s.setRx side r).engine = s.engine := by cases side <;> rfl
@[simp] theorem State.setRx_runtime (side : Side) (r : RxLane) : (s.setRx side r).runtime = s.runtime := by cases side <;> rfl
@[simp] theorem State.setRx_sticky (side : Side) (r : RxLane) : (s.setRx side r).sticky = s.sticky := by cases side <;> rfl
@[simp] theorem State.setRx_hold (side : Side) (r : RxLane) : (s.setRx side r).hold = s.hold := by cases side <;> rfl
@[simp] theorem State.setRx_exc (side : Side) (r : RxLane) : (s.setRx side r).exc = s.exc := by cases side <;> rfl
@[simp] theorem State.setRx_nodeAddress (side : Side) (r : RxLane) : (s.setRx side r).nodeAddress = s.nodeAddress := by cases side <;> rfl
@[simp] theorem State.setRx_requests (side : Side) (r : RxLane) : (s.setRx side r).requests = s.requests := by cases side <;> rfl
@[simp] theorem State.setRx_responses (side : Side) (r : RxLane) : (s.setRx side r).responses = s.responses := by cases side <;> rfl
@[simp] theorem State.setRx_answers (side : Side) (r : RxLane) : (s.setRx side r).answers = s.answers := by cases side <;> rfl
@[simp] theorem State.setRx_deferredCommit (side : Side) (r : RxLane) : (s.setRx side r).deferredCommit = s.deferredCommit := by cases side <;> rfl
@[simp] theorem State.setRx_commitEnumerated (side : Side) (r : RxLane) : (s.setRx side r).commitEnumerated = s.commitEnumerated := by cases side <;> rfl
@[simp] theorem State.setRx_deferredRelease (side : Side) (r : RxLane) : (s.setRx side r).deferredRelease = s.deferredRelease := by cases side <;> rfl
@[simp] theorem State.setRx_cache (side : Side) (r : RxLane) : (s.setRx side r).cache = s.cache := by cases side <;> rfl
@[simp] theorem State.setRx_params (side : Side) (r : RxLane) : (s.setRx side r).params = s.params := by cases side <;> rfl
@[simp] theorem State.setRx_laneCounters (side : Side) (r : RxLane) : (s.setRx side r).laneCounters = s.laneCounters := by cases side <;> rfl
@[simp] theorem State.setRx_engineCounters (side : Side) (r : RxLane) : (s.setRx side r).engineCounters = s.engineCounters := by cases side <;> rfl
@[simp] theorem State.setRx_holdCounters (side : Side) (r : RxLane) : (s.setRx side r).holdCounters = s.holdCounters := by cases side <;> rfl
@[simp] theorem State.setRx_requestDrops (side : Side) (r : RxLane) : (s.setRx side r).requestDrops = s.requestDrops := by cases side <;> rfl
@[simp] theorem State.setRx_replays (side : Side) (r : RxLane) : (s.setRx side r).replays = s.replays := by cases side <;> rfl
@[simp] theorem State.setRx_pending (side : Side) (r : RxLane) : (s.setRx side r).pending = s.pending := by cases side <;> rfl

/-! ## `State.countRx` changes the lane counters alone -/

@[simp] theorem State.countRx_aRx (side : Side) (f : RxCounters → RxCounters) : (s.countRx side f).aRx = s.aRx := by cases side <;> rfl
@[simp] theorem State.countRx_cRx (side : Side) (f : RxCounters → RxCounters) : (s.countRx side f).cRx = s.cRx := by cases side <;> rfl
@[simp] theorem State.countRx_aTx (side : Side) (f : RxCounters → RxCounters) : (s.countRx side f).aTx = s.aTx := by cases side <;> rfl
@[simp] theorem State.countRx_cTx (side : Side) (f : RxCounters → RxCounters) : (s.countRx side f).cTx = s.cTx := by cases side <;> rfl
@[simp] theorem State.countRx_dataCredits (side : Side) (f : RxCounters → RxCounters) : (s.countRx side f).dataCredits = s.dataCredits := by cases side <;> rfl
@[simp] theorem State.countRx_controlCredits (side : Side) (f : RxCounters → RxCounters) : (s.countRx side f).controlCredits = s.controlCredits := by cases side <;> rfl
@[simp] theorem State.countRx_outstanding (side : Side) (f : RxCounters → RxCounters) : (s.countRx side f).outstanding = s.outstanding := by cases side <;> rfl
@[simp] theorem State.countRx_grants (side : Side) (f : RxCounters → RxCounters) : (s.countRx side f).grants = s.grants := by cases side <;> rfl
@[simp] theorem State.countRx_lastCreditSent (side : Side) (f : RxCounters → RxCounters) : (s.countRx side f).lastCreditSent = s.lastCreditSent := by cases side <;> rfl
@[simp] theorem State.countRx_ingress (side : Side) (f : RxCounters → RxCounters) : (s.countRx side f).ingress = s.ingress := by cases side <;> rfl
@[simp] theorem State.countRx_transit (side : Side) (f : RxCounters → RxCounters) : (s.countRx side f).transit = s.transit := by cases side <;> rfl
@[simp] theorem State.countRx_forward (side : Side) (f : RxCounters → RxCounters) : (s.countRx side f).forward = s.forward := by cases side <;> rfl
@[simp] theorem State.countRx_outQueue (side : Side) (f : RxCounters → RxCounters) : (s.countRx side f).outQueue = s.outQueue := by cases side <;> rfl
@[simp] theorem State.countRx_active (side : Side) (f : RxCounters → RxCounters) : (s.countRx side f).active = s.active := by cases side <;> rfl
@[simp] theorem State.countRx_shadow (side : Side) (f : RxCounters → RxCounters) : (s.countRx side f).shadow = s.shadow := by cases side <;> rfl
@[simp] theorem State.countRx_layouts (side : Side) (f : RxCounters → RxCounters) : (s.countRx side f).layouts = s.layouts := by cases side <;> rfl
@[simp] theorem State.countRx_pendingLayouts (side : Side) (f : RxCounters → RxCounters) : (s.countRx side f).pendingLayouts = s.pendingLayouts := by cases side <;> rfl
@[simp] theorem State.countRx_generation (side : Side) (f : RxCounters → RxCounters) : (s.countRx side f).generation = s.generation := by cases side <;> rfl
@[simp] theorem State.countRx_phase (side : Side) (f : RxCounters → RxCounters) : (s.countRx side f).phase = s.phase := by cases side <;> rfl
@[simp] theorem State.countRx_engine (side : Side) (f : RxCounters → RxCounters) : (s.countRx side f).engine = s.engine := by cases side <;> rfl
@[simp] theorem State.countRx_runtime (side : Side) (f : RxCounters → RxCounters) : (s.countRx side f).runtime = s.runtime := by cases side <;> rfl
@[simp] theorem State.countRx_sticky (side : Side) (f : RxCounters → RxCounters) : (s.countRx side f).sticky = s.sticky := by cases side <;> rfl
@[simp] theorem State.countRx_hold (side : Side) (f : RxCounters → RxCounters) : (s.countRx side f).hold = s.hold := by cases side <;> rfl
@[simp] theorem State.countRx_exc (side : Side) (f : RxCounters → RxCounters) : (s.countRx side f).exc = s.exc := by cases side <;> rfl
@[simp] theorem State.countRx_nodeAddress (side : Side) (f : RxCounters → RxCounters) : (s.countRx side f).nodeAddress = s.nodeAddress := by cases side <;> rfl
@[simp] theorem State.countRx_requests (side : Side) (f : RxCounters → RxCounters) : (s.countRx side f).requests = s.requests := by cases side <;> rfl
@[simp] theorem State.countRx_responses (side : Side) (f : RxCounters → RxCounters) : (s.countRx side f).responses = s.responses := by cases side <;> rfl
@[simp] theorem State.countRx_answers (side : Side) (f : RxCounters → RxCounters) : (s.countRx side f).answers = s.answers := by cases side <;> rfl
@[simp] theorem State.countRx_deferredCommit (side : Side) (f : RxCounters → RxCounters) : (s.countRx side f).deferredCommit = s.deferredCommit := by cases side <;> rfl
@[simp] theorem State.countRx_commitEnumerated (side : Side) (f : RxCounters → RxCounters) : (s.countRx side f).commitEnumerated = s.commitEnumerated := by cases side <;> rfl
@[simp] theorem State.countRx_deferredRelease (side : Side) (f : RxCounters → RxCounters) : (s.countRx side f).deferredRelease = s.deferredRelease := by cases side <;> rfl
@[simp] theorem State.countRx_cache (side : Side) (f : RxCounters → RxCounters) : (s.countRx side f).cache = s.cache := by cases side <;> rfl
@[simp] theorem State.countRx_params (side : Side) (f : RxCounters → RxCounters) : (s.countRx side f).params = s.params := by cases side <;> rfl
@[simp] theorem State.countRx_engineCounters (side : Side) (f : RxCounters → RxCounters) : (s.countRx side f).engineCounters = s.engineCounters := by cases side <;> rfl
@[simp] theorem State.countRx_holdCounters (side : Side) (f : RxCounters → RxCounters) : (s.countRx side f).holdCounters = s.holdCounters := by cases side <;> rfl
@[simp] theorem State.countRx_requestDrops (side : Side) (f : RxCounters → RxCounters) : (s.countRx side f).requestDrops = s.requestDrops := by cases side <;> rfl
@[simp] theorem State.countRx_replays (side : Side) (f : RxCounters → RxCounters) : (s.countRx side f).replays = s.replays := by cases side <;> rfl
@[simp] theorem State.countRx_pending (side : Side) (f : RxCounters → RxCounters) : (s.countRx side f).pending = s.pending := by cases side <;> rfl

/-! ## `State.clearCrossed` changes the tag cache alone -/

@[simp] theorem State.clearCrossed_aRx : s.clearCrossed.aRx = s.aRx := rfl
@[simp] theorem State.clearCrossed_cRx : s.clearCrossed.cRx = s.cRx := rfl
@[simp] theorem State.clearCrossed_aTx : s.clearCrossed.aTx = s.aTx := rfl
@[simp] theorem State.clearCrossed_cTx : s.clearCrossed.cTx = s.cTx := rfl
@[simp] theorem State.clearCrossed_dataCredits : s.clearCrossed.dataCredits = s.dataCredits := rfl
@[simp] theorem State.clearCrossed_controlCredits : s.clearCrossed.controlCredits = s.controlCredits := rfl
@[simp] theorem State.clearCrossed_outstanding : s.clearCrossed.outstanding = s.outstanding := rfl
@[simp] theorem State.clearCrossed_grants : s.clearCrossed.grants = s.grants := rfl
@[simp] theorem State.clearCrossed_lastCreditSent : s.clearCrossed.lastCreditSent = s.lastCreditSent := rfl
@[simp] theorem State.clearCrossed_ingress : s.clearCrossed.ingress = s.ingress := rfl
@[simp] theorem State.clearCrossed_transit : s.clearCrossed.transit = s.transit := rfl
@[simp] theorem State.clearCrossed_forward : s.clearCrossed.forward = s.forward := rfl
@[simp] theorem State.clearCrossed_active : s.clearCrossed.active = s.active := rfl
@[simp] theorem State.clearCrossed_shadow : s.clearCrossed.shadow = s.shadow := rfl
@[simp] theorem State.clearCrossed_layouts : s.clearCrossed.layouts = s.layouts := rfl
@[simp] theorem State.clearCrossed_pendingLayouts : s.clearCrossed.pendingLayouts = s.pendingLayouts := rfl
@[simp] theorem State.clearCrossed_generation : s.clearCrossed.generation = s.generation := rfl
@[simp] theorem State.clearCrossed_phase : s.clearCrossed.phase = s.phase := rfl
@[simp] theorem State.clearCrossed_engine : s.clearCrossed.engine = s.engine := rfl
@[simp] theorem State.clearCrossed_runtime : s.clearCrossed.runtime = s.runtime := rfl
@[simp] theorem State.clearCrossed_sticky : s.clearCrossed.sticky = s.sticky := rfl
@[simp] theorem State.clearCrossed_hold : s.clearCrossed.hold = s.hold := rfl
@[simp] theorem State.clearCrossed_exc : s.clearCrossed.exc = s.exc := rfl
@[simp] theorem State.clearCrossed_nodeAddress : s.clearCrossed.nodeAddress = s.nodeAddress := rfl
@[simp] theorem State.clearCrossed_requests : s.clearCrossed.requests = s.requests := rfl
@[simp] theorem State.clearCrossed_responses : s.clearCrossed.responses = s.responses := rfl
@[simp] theorem State.clearCrossed_answers : s.clearCrossed.answers = s.answers := rfl
@[simp] theorem State.clearCrossed_deferredCommit : s.clearCrossed.deferredCommit = s.deferredCommit := rfl
@[simp] theorem State.clearCrossed_commitEnumerated : s.clearCrossed.commitEnumerated = s.commitEnumerated := rfl
@[simp] theorem State.clearCrossed_deferredRelease : s.clearCrossed.deferredRelease = s.deferredRelease := rfl
@[simp] theorem State.clearCrossed_params : s.clearCrossed.params = s.params := rfl
@[simp] theorem State.clearCrossed_laneCounters : s.clearCrossed.laneCounters = s.laneCounters := rfl
@[simp] theorem State.clearCrossed_engineCounters : s.clearCrossed.engineCounters = s.engineCounters := rfl
@[simp] theorem State.clearCrossed_holdCounters : s.clearCrossed.holdCounters = s.holdCounters := rfl
@[simp] theorem State.clearCrossed_requestDrops : s.clearCrossed.requestDrops = s.requestDrops := rfl
@[simp] theorem State.clearCrossed_replays : s.clearCrossed.replays = s.replays := rfl
@[simp] theorem State.clearCrossed_pending : s.clearCrossed.pending = s.pending := rfl
@[simp] theorem State.clearCrossed_outQueue : s.clearCrossed.outQueue = s.outQueue := rfl

/-! ## `State.enterOutput` changes the output queue alone -/

@[simp] theorem State.enterOutput_aRx (f : OutFrame) : (s.enterOutput f).aRx = s.aRx := rfl
@[simp] theorem State.enterOutput_cRx (f : OutFrame) : (s.enterOutput f).cRx = s.cRx := rfl
@[simp] theorem State.enterOutput_aTx (f : OutFrame) : (s.enterOutput f).aTx = s.aTx := rfl
@[simp] theorem State.enterOutput_cTx (f : OutFrame) : (s.enterOutput f).cTx = s.cTx := rfl
@[simp] theorem State.enterOutput_dataCredits (f : OutFrame) : (s.enterOutput f).dataCredits = s.dataCredits := rfl
@[simp] theorem State.enterOutput_controlCredits (f : OutFrame) : (s.enterOutput f).controlCredits = s.controlCredits := rfl
@[simp] theorem State.enterOutput_outstanding (f : OutFrame) : (s.enterOutput f).outstanding = s.outstanding := rfl
@[simp] theorem State.enterOutput_grants (f : OutFrame) : (s.enterOutput f).grants = s.grants := rfl
@[simp] theorem State.enterOutput_lastCreditSent (f : OutFrame) : (s.enterOutput f).lastCreditSent = s.lastCreditSent := rfl
@[simp] theorem State.enterOutput_ingress (f : OutFrame) : (s.enterOutput f).ingress = s.ingress := rfl
@[simp] theorem State.enterOutput_transit (f : OutFrame) : (s.enterOutput f).transit = s.transit := rfl
@[simp] theorem State.enterOutput_forward (f : OutFrame) : (s.enterOutput f).forward = s.forward := rfl
@[simp] theorem State.enterOutput_active (f : OutFrame) : (s.enterOutput f).active = s.active := rfl
@[simp] theorem State.enterOutput_shadow (f : OutFrame) : (s.enterOutput f).shadow = s.shadow := rfl
@[simp] theorem State.enterOutput_layouts (f : OutFrame) : (s.enterOutput f).layouts = s.layouts := rfl
@[simp] theorem State.enterOutput_pendingLayouts (f : OutFrame) : (s.enterOutput f).pendingLayouts = s.pendingLayouts := rfl
@[simp] theorem State.enterOutput_generation (f : OutFrame) : (s.enterOutput f).generation = s.generation := rfl
@[simp] theorem State.enterOutput_phase (f : OutFrame) : (s.enterOutput f).phase = s.phase := rfl
@[simp] theorem State.enterOutput_engine (f : OutFrame) : (s.enterOutput f).engine = s.engine := rfl
@[simp] theorem State.enterOutput_runtime (f : OutFrame) : (s.enterOutput f).runtime = s.runtime := rfl
@[simp] theorem State.enterOutput_sticky (f : OutFrame) : (s.enterOutput f).sticky = s.sticky := rfl
@[simp] theorem State.enterOutput_hold (f : OutFrame) : (s.enterOutput f).hold = s.hold := rfl
@[simp] theorem State.enterOutput_exc (f : OutFrame) : (s.enterOutput f).exc = s.exc := rfl
@[simp] theorem State.enterOutput_nodeAddress (f : OutFrame) : (s.enterOutput f).nodeAddress = s.nodeAddress := rfl
@[simp] theorem State.enterOutput_requests (f : OutFrame) : (s.enterOutput f).requests = s.requests := rfl
@[simp] theorem State.enterOutput_responses (f : OutFrame) : (s.enterOutput f).responses = s.responses := rfl
@[simp] theorem State.enterOutput_answers (f : OutFrame) : (s.enterOutput f).answers = s.answers := rfl
@[simp] theorem State.enterOutput_deferredCommit (f : OutFrame) : (s.enterOutput f).deferredCommit = s.deferredCommit := rfl
@[simp] theorem State.enterOutput_commitEnumerated (f : OutFrame) : (s.enterOutput f).commitEnumerated = s.commitEnumerated := rfl
@[simp] theorem State.enterOutput_deferredRelease (f : OutFrame) : (s.enterOutput f).deferredRelease = s.deferredRelease := rfl
@[simp] theorem State.enterOutput_cache (f : OutFrame) : (s.enterOutput f).cache = s.cache := rfl
@[simp] theorem State.enterOutput_params (f : OutFrame) : (s.enterOutput f).params = s.params := rfl
@[simp] theorem State.enterOutput_laneCounters (f : OutFrame) : (s.enterOutput f).laneCounters = s.laneCounters := rfl
@[simp] theorem State.enterOutput_engineCounters (f : OutFrame) : (s.enterOutput f).engineCounters = s.engineCounters := rfl
@[simp] theorem State.enterOutput_holdCounters (f : OutFrame) : (s.enterOutput f).holdCounters = s.holdCounters := rfl
@[simp] theorem State.enterOutput_requestDrops (f : OutFrame) : (s.enterOutput f).requestDrops = s.requestDrops := rfl
@[simp] theorem State.enterOutput_replays (f : OutFrame) : (s.enterOutput f).replays = s.replays := rfl
@[simp] theorem State.enterOutput_pending (f : OutFrame) : (s.enterOutput f).pending = s.pending := rfl

/-! ## `State.handRecord` changes the exception unit alone -/

@[simp] theorem State.handRecord_aRx (r : ExceptionRecord) : (s.handRecord r).aRx = s.aRx := rfl
@[simp] theorem State.handRecord_cRx (r : ExceptionRecord) : (s.handRecord r).cRx = s.cRx := rfl
@[simp] theorem State.handRecord_aTx (r : ExceptionRecord) : (s.handRecord r).aTx = s.aTx := rfl
@[simp] theorem State.handRecord_cTx (r : ExceptionRecord) : (s.handRecord r).cTx = s.cTx := rfl
@[simp] theorem State.handRecord_dataCredits (r : ExceptionRecord) : (s.handRecord r).dataCredits = s.dataCredits := rfl
@[simp] theorem State.handRecord_controlCredits (r : ExceptionRecord) : (s.handRecord r).controlCredits = s.controlCredits := rfl
@[simp] theorem State.handRecord_outstanding (r : ExceptionRecord) : (s.handRecord r).outstanding = s.outstanding := rfl
@[simp] theorem State.handRecord_grants (r : ExceptionRecord) : (s.handRecord r).grants = s.grants := rfl
@[simp] theorem State.handRecord_lastCreditSent (r : ExceptionRecord) : (s.handRecord r).lastCreditSent = s.lastCreditSent := rfl
@[simp] theorem State.handRecord_ingress (r : ExceptionRecord) : (s.handRecord r).ingress = s.ingress := rfl
@[simp] theorem State.handRecord_transit (r : ExceptionRecord) : (s.handRecord r).transit = s.transit := rfl
@[simp] theorem State.handRecord_forward (r : ExceptionRecord) : (s.handRecord r).forward = s.forward := rfl
@[simp] theorem State.handRecord_outQueue (r : ExceptionRecord) : (s.handRecord r).outQueue = s.outQueue := rfl
@[simp] theorem State.handRecord_active (r : ExceptionRecord) : (s.handRecord r).active = s.active := rfl
@[simp] theorem State.handRecord_shadow (r : ExceptionRecord) : (s.handRecord r).shadow = s.shadow := rfl
@[simp] theorem State.handRecord_layouts (r : ExceptionRecord) : (s.handRecord r).layouts = s.layouts := rfl
@[simp] theorem State.handRecord_pendingLayouts (r : ExceptionRecord) : (s.handRecord r).pendingLayouts = s.pendingLayouts := rfl
@[simp] theorem State.handRecord_generation (r : ExceptionRecord) : (s.handRecord r).generation = s.generation := rfl
@[simp] theorem State.handRecord_phase (r : ExceptionRecord) : (s.handRecord r).phase = s.phase := rfl
@[simp] theorem State.handRecord_engine (r : ExceptionRecord) : (s.handRecord r).engine = s.engine := rfl
@[simp] theorem State.handRecord_runtime (r : ExceptionRecord) : (s.handRecord r).runtime = s.runtime := rfl
@[simp] theorem State.handRecord_sticky (r : ExceptionRecord) : (s.handRecord r).sticky = s.sticky := rfl
@[simp] theorem State.handRecord_hold (r : ExceptionRecord) : (s.handRecord r).hold = s.hold := rfl
@[simp] theorem State.handRecord_nodeAddress (r : ExceptionRecord) : (s.handRecord r).nodeAddress = s.nodeAddress := rfl
@[simp] theorem State.handRecord_requests (r : ExceptionRecord) : (s.handRecord r).requests = s.requests := rfl
@[simp] theorem State.handRecord_responses (r : ExceptionRecord) : (s.handRecord r).responses = s.responses := rfl
@[simp] theorem State.handRecord_answers (r : ExceptionRecord) : (s.handRecord r).answers = s.answers := rfl
@[simp] theorem State.handRecord_deferredCommit (r : ExceptionRecord) : (s.handRecord r).deferredCommit = s.deferredCommit := rfl
@[simp] theorem State.handRecord_commitEnumerated (r : ExceptionRecord) : (s.handRecord r).commitEnumerated = s.commitEnumerated := rfl
@[simp] theorem State.handRecord_deferredRelease (r : ExceptionRecord) : (s.handRecord r).deferredRelease = s.deferredRelease := rfl
@[simp] theorem State.handRecord_cache (r : ExceptionRecord) : (s.handRecord r).cache = s.cache := rfl
@[simp] theorem State.handRecord_params (r : ExceptionRecord) : (s.handRecord r).params = s.params := rfl
@[simp] theorem State.handRecord_laneCounters (r : ExceptionRecord) : (s.handRecord r).laneCounters = s.laneCounters := rfl
@[simp] theorem State.handRecord_engineCounters (r : ExceptionRecord) : (s.handRecord r).engineCounters = s.engineCounters := rfl
@[simp] theorem State.handRecord_holdCounters (r : ExceptionRecord) : (s.handRecord r).holdCounters = s.holdCounters := rfl
@[simp] theorem State.handRecord_requestDrops (r : ExceptionRecord) : (s.handRecord r).requestDrops = s.requestDrops := rfl
@[simp] theorem State.handRecord_replays (r : ExceptionRecord) : (s.handRecord r).replays = s.replays := rfl
@[simp] theorem State.handRecord_pending (r : ExceptionRecord) : (s.handRecord r).pending = s.pending := rfl

/-! ## `State.setRuntime` changes the runtime state alone -/

@[simp] theorem State.setRuntime_aRx (i : Fin 8) (r : StreamRuntime) : (s.setRuntime i r).aRx = s.aRx := rfl
@[simp] theorem State.setRuntime_cRx (i : Fin 8) (r : StreamRuntime) : (s.setRuntime i r).cRx = s.cRx := rfl
@[simp] theorem State.setRuntime_aTx (i : Fin 8) (r : StreamRuntime) : (s.setRuntime i r).aTx = s.aTx := rfl
@[simp] theorem State.setRuntime_cTx (i : Fin 8) (r : StreamRuntime) : (s.setRuntime i r).cTx = s.cTx := rfl
@[simp] theorem State.setRuntime_dataCredits (i : Fin 8) (r : StreamRuntime) : (s.setRuntime i r).dataCredits = s.dataCredits := rfl
@[simp] theorem State.setRuntime_controlCredits (i : Fin 8) (r : StreamRuntime) : (s.setRuntime i r).controlCredits = s.controlCredits := rfl
@[simp] theorem State.setRuntime_outstanding (i : Fin 8) (r : StreamRuntime) : (s.setRuntime i r).outstanding = s.outstanding := rfl
@[simp] theorem State.setRuntime_grants (i : Fin 8) (r : StreamRuntime) : (s.setRuntime i r).grants = s.grants := rfl
@[simp] theorem State.setRuntime_lastCreditSent (i : Fin 8) (r : StreamRuntime) : (s.setRuntime i r).lastCreditSent = s.lastCreditSent := rfl
@[simp] theorem State.setRuntime_ingress (i : Fin 8) (r : StreamRuntime) : (s.setRuntime i r).ingress = s.ingress := rfl
@[simp] theorem State.setRuntime_transit (i : Fin 8) (r : StreamRuntime) : (s.setRuntime i r).transit = s.transit := rfl
@[simp] theorem State.setRuntime_forward (i : Fin 8) (r : StreamRuntime) : (s.setRuntime i r).forward = s.forward := rfl
@[simp] theorem State.setRuntime_outQueue (i : Fin 8) (r : StreamRuntime) : (s.setRuntime i r).outQueue = s.outQueue := rfl
@[simp] theorem State.setRuntime_active (i : Fin 8) (r : StreamRuntime) : (s.setRuntime i r).active = s.active := rfl
@[simp] theorem State.setRuntime_shadow (i : Fin 8) (r : StreamRuntime) : (s.setRuntime i r).shadow = s.shadow := rfl
@[simp] theorem State.setRuntime_layouts (i : Fin 8) (r : StreamRuntime) : (s.setRuntime i r).layouts = s.layouts := rfl
@[simp] theorem State.setRuntime_pendingLayouts (i : Fin 8) (r : StreamRuntime) : (s.setRuntime i r).pendingLayouts = s.pendingLayouts := rfl
@[simp] theorem State.setRuntime_generation (i : Fin 8) (r : StreamRuntime) : (s.setRuntime i r).generation = s.generation := rfl
@[simp] theorem State.setRuntime_phase (i : Fin 8) (r : StreamRuntime) : (s.setRuntime i r).phase = s.phase := rfl
@[simp] theorem State.setRuntime_engine (i : Fin 8) (r : StreamRuntime) : (s.setRuntime i r).engine = s.engine := rfl
@[simp] theorem State.setRuntime_sticky (i : Fin 8) (r : StreamRuntime) : (s.setRuntime i r).sticky = s.sticky := rfl
@[simp] theorem State.setRuntime_hold (i : Fin 8) (r : StreamRuntime) : (s.setRuntime i r).hold = s.hold := rfl
@[simp] theorem State.setRuntime_exc (i : Fin 8) (r : StreamRuntime) : (s.setRuntime i r).exc = s.exc := rfl
@[simp] theorem State.setRuntime_nodeAddress (i : Fin 8) (r : StreamRuntime) : (s.setRuntime i r).nodeAddress = s.nodeAddress := rfl
@[simp] theorem State.setRuntime_requests (i : Fin 8) (r : StreamRuntime) : (s.setRuntime i r).requests = s.requests := rfl
@[simp] theorem State.setRuntime_responses (i : Fin 8) (r : StreamRuntime) : (s.setRuntime i r).responses = s.responses := rfl
@[simp] theorem State.setRuntime_answers (i : Fin 8) (r : StreamRuntime) : (s.setRuntime i r).answers = s.answers := rfl
@[simp] theorem State.setRuntime_deferredCommit (i : Fin 8) (r : StreamRuntime) : (s.setRuntime i r).deferredCommit = s.deferredCommit := rfl
@[simp] theorem State.setRuntime_commitEnumerated (i : Fin 8) (r : StreamRuntime) : (s.setRuntime i r).commitEnumerated = s.commitEnumerated := rfl
@[simp] theorem State.setRuntime_deferredRelease (i : Fin 8) (r : StreamRuntime) : (s.setRuntime i r).deferredRelease = s.deferredRelease := rfl
@[simp] theorem State.setRuntime_cache (i : Fin 8) (r : StreamRuntime) : (s.setRuntime i r).cache = s.cache := rfl
@[simp] theorem State.setRuntime_params (i : Fin 8) (r : StreamRuntime) : (s.setRuntime i r).params = s.params := rfl
@[simp] theorem State.setRuntime_laneCounters (i : Fin 8) (r : StreamRuntime) : (s.setRuntime i r).laneCounters = s.laneCounters := rfl
@[simp] theorem State.setRuntime_engineCounters (i : Fin 8) (r : StreamRuntime) : (s.setRuntime i r).engineCounters = s.engineCounters := rfl
@[simp] theorem State.setRuntime_holdCounters (i : Fin 8) (r : StreamRuntime) : (s.setRuntime i r).holdCounters = s.holdCounters := rfl
@[simp] theorem State.setRuntime_requestDrops (i : Fin 8) (r : StreamRuntime) : (s.setRuntime i r).requestDrops = s.requestDrops := rfl
@[simp] theorem State.setRuntime_replays (i : Fin 8) (r : StreamRuntime) : (s.setRuntime i r).replays = s.replays := rfl
@[simp] theorem State.setRuntime_pending (i : Fin 8) (r : StreamRuntime) : (s.setRuntime i r).pending = s.pending := rfl

/-! ## `State.countStream` changes the engine counters alone -/

@[simp] theorem State.countStream_aRx (i : Fin 8) (f : StreamCounters → StreamCounters) : (s.countStream i f).aRx = s.aRx := rfl
@[simp] theorem State.countStream_cRx (i : Fin 8) (f : StreamCounters → StreamCounters) : (s.countStream i f).cRx = s.cRx := rfl
@[simp] theorem State.countStream_aTx (i : Fin 8) (f : StreamCounters → StreamCounters) : (s.countStream i f).aTx = s.aTx := rfl
@[simp] theorem State.countStream_cTx (i : Fin 8) (f : StreamCounters → StreamCounters) : (s.countStream i f).cTx = s.cTx := rfl
@[simp] theorem State.countStream_dataCredits (i : Fin 8) (f : StreamCounters → StreamCounters) : (s.countStream i f).dataCredits = s.dataCredits := rfl
@[simp] theorem State.countStream_controlCredits (i : Fin 8) (f : StreamCounters → StreamCounters) : (s.countStream i f).controlCredits = s.controlCredits := rfl
@[simp] theorem State.countStream_outstanding (i : Fin 8) (f : StreamCounters → StreamCounters) : (s.countStream i f).outstanding = s.outstanding := rfl
@[simp] theorem State.countStream_grants (i : Fin 8) (f : StreamCounters → StreamCounters) : (s.countStream i f).grants = s.grants := rfl
@[simp] theorem State.countStream_lastCreditSent (i : Fin 8) (f : StreamCounters → StreamCounters) : (s.countStream i f).lastCreditSent = s.lastCreditSent := rfl
@[simp] theorem State.countStream_ingress (i : Fin 8) (f : StreamCounters → StreamCounters) : (s.countStream i f).ingress = s.ingress := rfl
@[simp] theorem State.countStream_transit (i : Fin 8) (f : StreamCounters → StreamCounters) : (s.countStream i f).transit = s.transit := rfl
@[simp] theorem State.countStream_forward (i : Fin 8) (f : StreamCounters → StreamCounters) : (s.countStream i f).forward = s.forward := rfl
@[simp] theorem State.countStream_outQueue (i : Fin 8) (f : StreamCounters → StreamCounters) : (s.countStream i f).outQueue = s.outQueue := rfl
@[simp] theorem State.countStream_active (i : Fin 8) (f : StreamCounters → StreamCounters) : (s.countStream i f).active = s.active := rfl
@[simp] theorem State.countStream_shadow (i : Fin 8) (f : StreamCounters → StreamCounters) : (s.countStream i f).shadow = s.shadow := rfl
@[simp] theorem State.countStream_layouts (i : Fin 8) (f : StreamCounters → StreamCounters) : (s.countStream i f).layouts = s.layouts := rfl
@[simp] theorem State.countStream_pendingLayouts (i : Fin 8) (f : StreamCounters → StreamCounters) : (s.countStream i f).pendingLayouts = s.pendingLayouts := rfl
@[simp] theorem State.countStream_generation (i : Fin 8) (f : StreamCounters → StreamCounters) : (s.countStream i f).generation = s.generation := rfl
@[simp] theorem State.countStream_phase (i : Fin 8) (f : StreamCounters → StreamCounters) : (s.countStream i f).phase = s.phase := rfl
@[simp] theorem State.countStream_engine (i : Fin 8) (f : StreamCounters → StreamCounters) : (s.countStream i f).engine = s.engine := rfl
@[simp] theorem State.countStream_runtime (i : Fin 8) (f : StreamCounters → StreamCounters) : (s.countStream i f).runtime = s.runtime := rfl
@[simp] theorem State.countStream_sticky (i : Fin 8) (f : StreamCounters → StreamCounters) : (s.countStream i f).sticky = s.sticky := rfl
@[simp] theorem State.countStream_hold (i : Fin 8) (f : StreamCounters → StreamCounters) : (s.countStream i f).hold = s.hold := rfl
@[simp] theorem State.countStream_exc (i : Fin 8) (f : StreamCounters → StreamCounters) : (s.countStream i f).exc = s.exc := rfl
@[simp] theorem State.countStream_nodeAddress (i : Fin 8) (f : StreamCounters → StreamCounters) : (s.countStream i f).nodeAddress = s.nodeAddress := rfl
@[simp] theorem State.countStream_requests (i : Fin 8) (f : StreamCounters → StreamCounters) : (s.countStream i f).requests = s.requests := rfl
@[simp] theorem State.countStream_responses (i : Fin 8) (f : StreamCounters → StreamCounters) : (s.countStream i f).responses = s.responses := rfl
@[simp] theorem State.countStream_answers (i : Fin 8) (f : StreamCounters → StreamCounters) : (s.countStream i f).answers = s.answers := rfl
@[simp] theorem State.countStream_deferredCommit (i : Fin 8) (f : StreamCounters → StreamCounters) : (s.countStream i f).deferredCommit = s.deferredCommit := rfl
@[simp] theorem State.countStream_commitEnumerated (i : Fin 8) (f : StreamCounters → StreamCounters) : (s.countStream i f).commitEnumerated = s.commitEnumerated := rfl
@[simp] theorem State.countStream_deferredRelease (i : Fin 8) (f : StreamCounters → StreamCounters) : (s.countStream i f).deferredRelease = s.deferredRelease := rfl
@[simp] theorem State.countStream_cache (i : Fin 8) (f : StreamCounters → StreamCounters) : (s.countStream i f).cache = s.cache := rfl
@[simp] theorem State.countStream_params (i : Fin 8) (f : StreamCounters → StreamCounters) : (s.countStream i f).params = s.params := rfl
@[simp] theorem State.countStream_laneCounters (i : Fin 8) (f : StreamCounters → StreamCounters) : (s.countStream i f).laneCounters = s.laneCounters := rfl
@[simp] theorem State.countStream_holdCounters (i : Fin 8) (f : StreamCounters → StreamCounters) : (s.countStream i f).holdCounters = s.holdCounters := rfl
@[simp] theorem State.countStream_requestDrops (i : Fin 8) (f : StreamCounters → StreamCounters) : (s.countStream i f).requestDrops = s.requestDrops := rfl
@[simp] theorem State.countStream_replays (i : Fin 8) (f : StreamCounters → StreamCounters) : (s.countStream i f).replays = s.replays := rfl
@[simp] theorem State.countStream_pending (i : Fin 8) (f : StreamCounters → StreamCounters) : (s.countStream i f).pending = s.pending := rfl

/-! ## What they change -/

@[simp] theorem State.setRx_rx (side : Side) (r : RxLane) : (s.setRx side r).rx side = r := by cases side <;> rfl
@[simp] theorem State.setRx_a (r : RxLane) : s.setRx .a r = { s with aRx := r } := rfl
@[simp] theorem State.setRx_c (r : RxLane) : s.setRx .c r = { s with cRx := r } := rfl
@[simp] theorem State.countRx_rx (side other : Side) (f : RxCounters → RxCounters) :
    (s.countRx side f).rx other = s.rx other := by cases side <;> cases other <;> rfl
@[simp] theorem State.enterOutput_outQueue (f : OutFrame) : (s.enterOutput f).outQueue = s.outQueue ++ [f] := rfl
@[simp] theorem State.handRecord_exc (r : ExceptionRecord) : (s.handRecord r).exc = s.exc.take s.params r := rfl

/-! ## Indexed records -/

/-- A record just written is read back. -/
@[simp] theorem get_set_self {α : Type} {n : Nat} (v : Vector α n) (i : Fin n) (x : α) :
    (v.set i.val x i.isLt).get i = x := by simp [Vector.get_eq_getElem]

/-- A write leaves every other record. -/
theorem get_set_ne {α : Type} {n : Nat} (v : Vector α n) {i j : Fin n} (x : α) (h : i ≠ j) :
    (v.set i.val x i.isLt).get j = v.get j := by
  rw [Vector.get_eq_getElem, Vector.getElem_set_ne]
  · rfl
  · exact fun e => h (Fin.ext e)

/-- Of two writes to one record the later one stays. -/
@[simp] theorem set_set_self {α : Type} {n : Nat} (v : Vector α n) (i : Fin n) (x y : α) :
    (v.set i.val x i.isLt).set i.val y i.isLt = v.set i.val y i.isLt := by
  ext j hj; simp only [Vector.getElem_set]; split <;> rfl

end Sys2Proof.Machine
end

