-- ==== Sys2Proof/Laws/Ops.lean ====
section
/-! SUPPORT. For each shared operation, once, everything it can do. -/

namespace Sys2Proof.Machine

variable (s : State)

/-! ## Lanes -/

/-- A frame being gathered is closed and counted, or nothing happens. -/
theorem State.closeMalformed_cases (side : Side) :
    ((s.rx side).assembly = none ∧ s.closeMalformed side = s) ∨
    (∃ b, (s.rx side).assembly = some b ∧
      s.closeMalformed side =
        (s.setRx side { s.rx side with assembly := none }).countRx side RxCounters.countMalformed) := by
  cases h : (s.rx side).assembly <;> simp [State.closeMalformed, h]

/-- A partial frame is dropped and counted, or nothing happens. -/
theorem State.dropPartial_cases (side : Side) :
    ((s.rx side).assembly = none ∧ s.dropPartial side = s) ∨
    (∃ b, (s.rx side).assembly = some b ∧
      s.dropPartial side =
        (s.setRx side { s.rx side with assembly := none }).countRx side RxCounters.countTruncated) := by
  cases h : (s.rx side).assembly <;> simp [State.dropPartial, h]

/-- What A-receive becoming DOWN does (R144, R149, R158, R159). -/
theorem State.laneDown_a :
    s.laneDown .a =
      { s with
        aRx := { s.aRx with state := .down, assembly := none }
        laneCounters :=
          { s.laneCounters with
            a := (if s.aRx.assembly.isSome then s.laneCounters.a.countTruncated else s.laneCounters.a).countLaneDown }
        outstanding := 0
        grants := [] } := by
  rcases s with ⟨⟨_, _, _, b⟩⟩
  cases b <;> rfl

/-- What C-receive becoming DOWN does (R144, R149, R155). -/
theorem State.laneDown_c :
    s.laneDown .c =
      { s with
        cRx := { s.cRx with state := .down, assembly := none }
        laneCounters :=
          { s.laneCounters with
            c := (if s.cRx.assembly.isSome then s.laneCounters.c.countTruncated else s.laneCounters.c).countLaneDown }
        dataCredits := 0
        controlCredits := 0 } := by
  rcases s with ⟨_, ⟨_, _, _, b⟩⟩
  cases b <;> rfl

/-! ## Queues -/

/-- A forwarded frame enters, or is dropped and counted (R154). -/
theorem State.offerForward_cases (f : Frame) :
    (s.forward.length < 4 ∧ s.offerForward f = { s with forward := s.forward ++ [f] }) ∨
    (4 ≤ s.forward.length ∧ s.offerForward f =
      { s with laneCounters := { s.laneCounters with forwardOverflow := satInc s.laneCounters.forwardOverflow } }) := by
  unfold State.offerForward; split <;> simp_all

/-- A request enters, or is dropped and counted (R153, R167). -/
theorem State.offerRequest_cases (rq : Request) :
    (s.requests.length < 4 ∧ s.offerRequest rq = { s with requests := s.requests ++ [rq] }) ∨
    (4 ≤ s.requests.length ∧ s.offerRequest rq = { s with requestDrops := satInc s.requestDrops }) := by
  unfold State.offerRequest; split <;> simp_all

/-! ## Grants -/

/-- A CREDIT_DATA grant is appended and counted, or not decided (R159). -/
theorem State.grantData_cases :
    (s.aRx.state = .up ∧ s.pendingGrants .data < 8 ∧
      s.grantData = { s with grants := s.grants ++ [.data], outstanding := s.outstanding + 1 }) ∨
    ((s.aRx.state ≠ .up ∨ 8 ≤ s.pendingGrants .data) ∧ s.grantData = s) := by
  unfold State.grantData; split
  · rename_i h; exact .inl ⟨h.1, h.2, rfl⟩
  · rename_i h; refine .inr ⟨?_, rfl⟩; simpa [imp_iff_not_or] using h

/-- A CREDIT_CONTROL grant is appended, or not decided (R159). -/
theorem State.grantControl_cases :
    (s.aRx.state = .up ∧ s.pendingGrants .control < 4 ∧
      s.grantControl = { s with grants := s.grants ++ [.control] }) ∨
    ((s.aRx.state ≠ .up ∨ 4 ≤ s.pendingGrants .control) ∧ s.grantControl = s) := by
  unfold State.grantControl; split
  · rename_i h; exact .inl ⟨h.1, h.2, rfl⟩
  · rename_i h; refine .inr ⟨?_, rfl⟩; simpa [imp_iff_not_or] using h

/-- The symbols of each kind that a credit restart leaves pending (R160). -/
theorem State.pendingGrants_creditRestart :
    s.creditRestart.pendingGrants .data = s.ingressFree ∧
    s.creditRestart.pendingGrants .control = s.transitFree ∧
    s.creditRestart.pendingGrants .reset = 1 := by
  refine ⟨?_, ?_, ?_⟩ <;> simp [State.creditRestart, State.pendingGrants, List.filter_append]

/-- Freeing the head entry changes the ingress buffer, and the grants and the count with them. -/
theorem State.freeIngress_cases :
    (s.aRx.state = .up ∧ s.pendingGrants .data < 8 ∧
      s.freeIngress =
        { s with ingress := s.ingress.tail, grants := s.grants ++ [.data], outstanding := s.outstanding + 1 }) ∨
    ((s.aRx.state ≠ .up ∨ 8 ≤ s.pendingGrants .data) ∧ s.freeIngress = { s with ingress := s.ingress.tail }) :=
  State.grantData_cases { s with ingress := s.ingress.tail }

/-! ## Exception unit -/

/-- A record handed on is stored at the tail, or lost to a full queue (R127, R128). -/
theorem ExceptionUnit.take_cases (x : ExceptionUnit) (p : Params) (r : ExceptionRecord) :
    (x.queue.length < 32 ∧
      (x.take p r).queue = x.queue ++ [{ r with seq := x.nextSeq, lossBefore := x.lossPending }] ∧
      (x.take p r).nextSeq = x.nextSeq + 1 ∧ (x.take p r).lost = x.lost ∧ (x.take p r).lossPending = false ∧
      (x.queue.length + 1 = p.noticeThreshold →
        (x.take p r).notice = .announced ∧ (x.take p r).coalescing = none ∧ (x.take p r).reminder = some 100 ∧
        (x.take p r).reminderCount = 0 ∧ (x.take p r).slot = some .threshold) ∧
      (x.queue.length + 1 ≠ p.noticeThreshold →
        (x.take p r).notice = .gathering ∧
        (x.take p r).coalescing = (if x.notice = .gathering then x.coalescing else some p.coalesceInterval) ∧
        (x.take p r).reminder = (if x.notice = .announced then none else x.reminder) ∧
        (x.take p r).reminderCount = x.reminderCount ∧ (x.take p r).slot = x.slot)) ∨
    (32 ≤ x.queue.length ∧ x.take p r = { x with lost := satInc x.lost, lossPending := true }) := by
  by_cases h : x.queue.length < 32
  · refine .inl ⟨h, ?_⟩
    cases hn : x.notice <;>
      simp [ExceptionUnit.take, h, ExceptionUnit.gather, ExceptionUnit.append, hn, ExceptionUnit.testThreshold] <;>
      split <;> simp_all [ExceptionUnit.announce, ExceptionUnit.placeNotice]
  · exact .inr ⟨by omega, by simp [ExceptionUnit.take, h]⟩

/-! ## Answers -/

/-- A frame produced enters the response queue, or the answer list (R170). -/
theorem State.place_cases (f : AgentFrame) :
    (s.answers = [] ∧ s.responses.length < 2 ∧ s.place f = { s with responses := s.responses ++ [f] }) ∨
    ((s.answers ≠ [] ∨ 2 ≤ s.responses.length) ∧ s.place f = { s with answers := s.answers ++ [f] }) := by
  unfold State.place
  cases ha : s.answers <;> by_cases hr : s.responses.length < 2 <;> simp [hr]; omega

/-- A frame placed while the agent may take a request goes to the response queue. -/
theorem State.place_ready (f : AgentFrame) (ha : s.answers = []) (hr : s.responses.length < 2) :
    s.place f = { s with responses := s.responses ++ [f] } := by
  simp [State.place, ha, hr]

/-- The states of every status but the two that are not cached (R172). -/
@[simp] theorem Status.cached_eq_false (st : Status) : st.cached = false ↔ st = .busy ∨ st = .inProgress := by
  cases st <;> simp [Status.cached]

/-- An answer produced while the agent may take a request. -/
theorem State.answer_ready (rq : Request) (r : Reply) (ha : s.answers = []) (hr : s.responses.length < 2) :
    s.answer rq r = s.answered rq s.requests r.status r.data := by
  rw [State.answer, State.answerAs, State.place_ready s _ ha hr, State.answered]
  cases r with | mk st data => cases st <;> rfl

/-- What an answer does to the queues of the agent: one frame more in the response queue or the answer list, and one entry in
the cache unless the status forbids it; nothing else changes. -/
theorem State.answerAs_eq (crossed : Bool) (rq : Request) (r : Reply) :
    s.answerAs crossed rq r =
      { s with
        responses := (s.place (.response (s.respond rq r))).responses
        answers := (s.place (.response (s.respond rq r))).answers
        cache := if r.status.cached then cacheInsert s.cache ⟨rq, s.respond rq r, crossed⟩ else s.cache } := by
  unfold State.answerAs
  rcases State.place_cases s (.response (s.respond rq r)) with ⟨_, _, h⟩ | ⟨_, h⟩ <;> rw [h] <;> split <;> rfl

/-- What the answer to a request that no ENUMERATE crossed does. -/
theorem State.answer_eq (rq : Request) (r : Reply) :
    s.answer rq r =
      { s with
        responses := (s.place (.response (s.respond rq r))).responses
        answers := (s.place (.response (s.respond rq r))).answers
        cache := if r.status.cached then cacheInsert s.cache ⟨rq, s.respond rq r, false⟩ else s.cache } :=
  State.answerAs_eq s false rq r

/-- The deferred COMMIT is answered, its cache entry noting whether an ENUMERATE crossed it, or there is none. -/
theorem State.endCommit_cases (r : Reply) :
    (s.deferredCommit = none ∧ s.endCommit r = s) ∨
    (∃ rq, s.deferredCommit = some rq ∧
      s.endCommit r =
        { s with deferredCommit := none, commitEnumerated := false }.answerAs s.commitEnumerated rq r) := by
  cases h : s.deferredCommit <;> simp [State.endCommit, h]

/-- A cache without the answer of a crossed commit is left as it is by the clearing of R110. -/
theorem State.clearCrossed_eq_self (h : ∀ e ∈ s.cache, e.crossed = false) : s.clearCrossed = s := by
  have hf : s.cache.filter (fun e => !e.crossed) = s.cache := by simpa [List.filter_eq_self] using h
  simp only [State.clearCrossed, hf]

/-- What the clearing of R110 leaves in the cache. -/
@[simp] theorem State.mem_clearCrossed (e : CacheEntry) :
    e ∈ s.clearCrossed.cache ↔ e ∈ s.cache ∧ e.crossed = false := by
  simp [State.clearCrossed]

/-- The clearing of R110 made twice is made once. -/
@[simp] theorem State.clearCrossed_clearCrossed : s.clearCrossed.clearCrossed = s.clearCrossed :=
  State.clearCrossed_eq_self _ fun e he => ((State.mem_clearCrossed s e).mp he).2

/-- The deferred RELEASE_HOLD is answered, or there is none. -/
theorem State.endRelease_cases (r : Reply) :
    (s.deferredRelease = none ∧ s.endRelease r = s) ∨
    (∃ rq, s.deferredRelease = some rq ∧ s.endRelease r = { s with deferredRelease := none }.answer rq r) := by
  cases h : s.deferredRelease <;> simp [State.endRelease, h]

/-! ## The agent -/

/-- No request is taken, or the head is taken and settled by the tests of R168. -/
theorem agentTake_cases (row : Request → Bool) (body : CommandBody) (rq : Request) :
    agentTake row body rq s = s ∨
    (∃ rest, s.requests = rq :: rest ∧ row rq = true ∧ s.responses.length < 2 ∧ s.answers = [] ∧
      agentTake row body rq s = execute body rq { s with requests := rest }.clearCrossed) := by
  unfold agentTake
  split
  · rename_i head rest hq
    split
    · rename_i h
      obtain ⟨rfl, hr, ha⟩ := h
      simp only [agentReady, Bool.and_eq_true, decide_eq_true_eq, List.isEmpty_iff] at ha
      exact .inr ⟨rest, hq, hr, ha.1, ha.2, rfl⟩
    · exact .inl rfl
  · exact .inl rfl

/-- The five ways in which a request just taken is settled (R168). -/
theorem execute_cases (body : CommandBody) (rq : Request) :
    (deferredTag s rq.tag = true ∧ execute body rq s = s.answer rq ⟨.inProgress, []⟩) ∨
    (∃ e ∈ s.cache, e.request = rq ∧
      execute body rq s = { s.place (.response e.response) with replays := satInc s.replays }) ∨
    ((commandDefined rq.code = false ∨ rq.dest = 63 ∧ broadcastAdmitted rq.code = false) ∧
      execute body rq s = s.answer rq ⟨.badCommand, []⟩) ∨
    (∃ t r, body rq s = (t, some r) ∧ execute body rq s = t.answer rq r) ∨
    (∃ t, body rq s = (t, none) ∧ execute body rq s = t) := by
  unfold execute
  split
  · rename_i h; exact .inl ⟨h, rfl⟩
  · split
    · rename_i e he
      refine .inr (.inl ⟨e, List.mem_of_find?_eq_some he, ?_, rfl⟩)
      simpa using List.find?_some he
    · split
      · rename_i h; exact .inr (.inr (.inl ⟨.inl (by simpa using h), rfl⟩))
      · split
        · rename_i h; exact .inr (.inr (.inl ⟨.inr (by simpa [broadcastAddress] using h), rfl⟩))
        · split
          · rename_i t r hb; exact .inr (.inr (.inr (.inl ⟨t, r, hb, rfl⟩)))
          · rename_i t hb; exact .inr (.inr (.inr (.inr ⟨t, hb, rfl⟩)))

/-- A request that passes the tests of R168 up to its command's own. -/
theorem execute_own (body : CommandBody) (rq : Request) (ht : deferredTag s rq.tag = false)
    (hf : ∀ e ∈ s.cache, e.request ≠ rq) (hc : commandDefined rq.code = true)
    (ha : rq.dest = 63 → broadcastAdmitted rq.code = true) :
    execute body rq s = match body rq s with | (t, some r) => t.answer rq r | (t, none) => t := by
  have hfind : s.cache.find? (fun e => e.request == rq) = none := by simpa [List.find?_eq_none] using hf
  have hadm : ¬ (rq.dest = broadcastAddress ∧ (!broadcastAdmitted rq.code) = true) := by
    rintro ⟨hd, hb⟩; simp [ha hd] at hb
  unfold execute
  simp only [ht, hfind, hc, hadm, Bool.false_eq_true, if_false, Bool.not_true] <;> rfl

/-- The take of a request by its row. -/
theorem agentTake_taken {s : State} {rq : Request} {rest : List Request} (h : Ready s rq rest)
    {row : Request → Bool} {body : CommandBody} (hrow : row rq = true) :
    agentTake row body rq s = execute body rq { s with requests := rest }.clearCrossed := by
  unfold agentTake
  rw [h.front]
  simp only [hrow, agentReady, h.room, h.noAnswers, decide_true, List.isEmpty_nil, Bool.and_self, and_self, if_true]

/-- A row takes its request as it does in the state that the clearing of R110 leaves. -/
theorem agentTake_clearCrossed {s : State} {rq : Request} {rest : List Request} (h : Ready s rq rest)
    {row : Request → Bool} {body : CommandBody} (hrow : row rq = true) :
    agentTake row body rq s = agentTake row body rq s.clearCrossed := by
  rw [agentTake_taken h hrow, agentTake_taken (s := s.clearCrossed) ⟨h.front, h.room, h.noAnswers⟩ hrow]
  exact congrArg _ (State.clearCrossed_clearCrossed { s with requests := rest }).symm

/-- The take of a request that neither the tag of a deferred request nor the cache settles. -/
theorem agentTake_untagged {s : State} {rq : Request} {rest : List Request} (h : Untagged s rq rest)
    {row : Request → Bool} {body : CommandBody} (hrow : row rq = true) :
    agentTake row body rq s = execute body rq { s with requests := rest } := by
  rw [agentTake_taken h.toReady hrow]
  exact congrArg (execute body rq) (State.clearCrossed_eq_self { s with requests := rest } h.cleared)

/-- A request that the agent takes carries the tag of no deferred request. -/
theorem Untagged.tagFree {s : State} {rq : Request} {rest : List Request} (h : Untagged s rq rest) :
    deferredTag s rq.tag = false := by
  have h1 := h.commitTag; have h2 := h.releaseTag
  cases hc : s.deferredCommit <;> cases hr : s.deferredRelease <;> simp_all [deferredTag]

/-- A request that reaches its command's own tests and is answered at its take. -/
theorem agentTake_answered {s : State} {rq : Request} {rest : List Request} (h : Takes s rq rest)
    {row : Request → Bool} {body : CommandBody} (hrow : row rq = true) (hcode : commandDefined rq.code = true)
    {t : State} {r : Reply} (hbody : body rq { s with requests := rest } = (t, some r))
    (hreq : t.requests = rest) (hresp : t.responses = s.responses) (hans : t.answers = s.answers) :
    agentTake row body rq s = t.answered rq rest r.status r.data := by
  rw [agentTake_untagged h.toUntagged hrow, execute_own { s with requests := rest } body rq h.toUntagged.tagFree h.notCached hcode h.admitted, hbody]
  show t.answer rq r = _
  rw [State.answer_ready t rq r (by rw [hans, h.noAnswers]) (by rw [hresp]; exact h.room), hreq]

/-- A request that reaches its command's own tests and is deferred. -/
theorem agentTake_deferred {s : State} {rq : Request} {rest : List Request} (h : Takes s rq rest)
    {row : Request → Bool} {body : CommandBody} (hrow : row rq = true) (hcode : commandDefined rq.code = true)
    {t : State} (hbody : body rq { s with requests := rest } = (t, none)) :
    agentTake row body rq s = t := by
  rw [agentTake_untagged h.toUntagged hrow, execute_own { s with requests := rest } body rq h.toUntagged.tagFree h.notCached hcode h.admitted, hbody]

/-- The command of a request row that is answered at its take. -/
theorem exec_answered {s : State} {rq : Request} {rest : List Request} (h : Takes s rq rest) {i : Instr}
    {row : Request → Bool} {body : CommandBody} (he : exec i s = .next (agentTake row body rq s)) (hrow : row rq = true)
    (hcode : commandDefined rq.code = true) (t : State) (st : Status) (data : List Word)
    (hbody : body rq { s with requests := rest } = ({ t with requests := rest }, some ⟨st, data⟩))
    (hresp : t.responses = s.responses) (hans : t.answers = s.answers) :
    exec i s = .next (t.answered rq rest st data) := by
  rw [he]
  exact congrArg _ (agentTake_answered h hrow hcode (t := { t with requests := rest }) hbody rfl hresp hans)

/-! ## Enumeration -/

/-- END on C-receive closes a waiting ENUMERATE exactly as the row ENUMERATE does (R153, R164; log 4). -/
theorem cReceiveFrameEnd_enumerate (a : Address) (h : enumerateWaits a s = true) : cReceiveFrameEnd s = enumerate a s := by
  have h0 := h
  unfold enumerateWaits at h
  simp only [Bool.and_eq_true, beq_iff_eq] at h
  obtain ⟨hup, hb⟩ := h
  have hr : (s.rx .c).state = .up := hup
  rw [enumerate, if_pos h0, cReceiveFrameEnd, frameEnd, State.onValidSymbol, hr]
  split at hb
  · rename_i b hasm
    split at hb
    · rename_i f hv
      simp only [beq_iff_eq] at hb
      simp [State.rx, State.setRx, hasm, closeCRx, hv, sortCRx, hb]
    · simp at hb
  · simp at hb

end Sys2Proof.Machine
end

