-- ==== Sys2Proof/Laws/Frames.lean ====
section
/-! SUPPORT. The assembly of a frame that the tables admit, and its verdict (R146 to R148). -/

namespace Sys2Proof.Machine

/-- The word limit depends on the first word alone. -/
theorem wordLimit_append (w : Word) (ws vs : List Word) : wordLimit ((w :: ws) ++ vs) = wordLimit (w :: ws) := rfl

/-- Words gathered one by one into a buffer that has room for them all are stored in order. -/
theorem gather_words (b : Assembly) (more : List Word) (n : Nat) (hb : b.words ≠ [])
    (hn : wordLimit b.words = n) (hroom : b.words.length + more.length ≤ n) :
    more.foldl Assembly.gather b = { b with words := b.words ++ more } := by
  induction more generalizing b with
  | nil => simp
  | cons w ws ih =>
    have hlt : b.words.length < wordLimit b.words := by simp at hroom; omega
    have hlim : wordLimit (b.words ++ [w]) = n := by
      rw [← hn]; cases h : b.words with
      | nil => exact absurd h hb
      | cons v vs => rfl
    rw [List.foldl_cons, Assembly.gather, if_pos hlt, ih { b with words := b.words ++ [w] } (by simp) hlim (by simp at hroom ⊢; omega)]
    simp

/-- The words of an admitted frame and one more are stored whole. -/
theorem gather_frame {k : FrameKind} {words : List Word} (h : IsFrame k words) (crc : Word) :
    (words ++ [crc]).foldl Assembly.gather .fresh = ⟨words ++ [crc], false, false⟩ := by
  obtain ⟨w, rest, rfl, hk, hl⟩ := h.kind
  have hmax := h.maximum
  rw [List.cons_append, List.foldl_cons]
  have h0 : Assembly.fresh.gather w = ⟨[w], false, false⟩ := rfl
  rw [h0, gather_words ⟨[w], false, false⟩ (rest ++ [crc]) (k.headerWords + k.maxPayload + 1) (by simp) (by simp [wordLimit, hk])
    (by simp at hmax ⊢; omega)]
  rfl

/-- An admitted frame followed by its CRC word passes every check of R148. -/
theorem verdict_frame {k : FrameKind} {words : List Word} (h : IsFrame k words) :
    Assembly.verdict ⟨words ++ [crcOf words], false, false⟩ = .pass k ⟨words⟩ := by
  obtain ⟨w, rest, rfl, hk, hl⟩ := h.kind
  have hmax := h.maximum
  have hfix := h.fixed
  have hsam := h.sample
  have hshown : Assembly.shownKind ⟨w :: rest ++ [crcOf (w :: rest)], false, false⟩ = some k := by
    simp [Assembly.shownKind, hk]
  have hcount : payloadCount w ≤ k.maxPayload := by omega
  have hlong : Assembly.isTooLong ⟨w :: rest ++ [crcOf (w :: rest)], false, false⟩ = false := by
    simp only [Assembly.isTooLong, hshown, Bool.false_or, decide_eq_false_iff_not]
    simpa using hcount
  have hshort : Assembly.isShort ⟨w :: rest ++ [crcOf (w :: rest)], false, false⟩ = false := by
    simp only [Assembly.isShort, Assembly.headerWords, hshown, decide_eq_false_iff_not, List.length_append,
      List.length_singleton]
    omega
  unfold Assembly.verdict
  rw [if_neg (by rw [hlong]; simp), if_neg (by rw [hshort]; simp),
    if_neg (by
      have : (w :: rest ++ [crcOf (w :: rest)]).dropLast = w :: rest := by rw [List.dropLast_concat]
      have h2 : (w :: rest ++ [crcOf (w :: rest)]).getLastD 0 = crcOf (w :: rest) := by
        rw [List.getLastD_concat]
      simp only [Assembly.isCorrupt, Bool.false_or, this, h2, bne_self_eq_false, Bool.false_eq_true, not_false_eq_true])]
  have hbad : Assembly.isBadContent ⟨w :: rest ++ [crcOf (w :: rest)], false, false⟩ = false := by
    simp only [Assembly.isBadContent, hshown]
    have e1 : (w :: rest ++ [crcOf (w :: rest)]).length - k.headerWords - 1 = payloadCount w := by
      simp at hl ⊢; omega
    simp only [e1]
    simp only [List.cons_append, List.headD_cons, ne_eq, not_true_eq_false, decide_false, Bool.false_or, Bool.or_eq_false_iff]
    refine ⟨?_, ?_⟩
    · by_cases hd : k = .data
      · subst hd
        by_cases hc : conditionedFlag w = true
        · simp [hc]
        · have := hsam rfl (by simpa using hc)
          have hne : payloadCount w ≠ 0 := by omega
          simp [hne]
      · cases k <;> simp_all
    · by_cases hf : k.fixedLength = true
      · have := hfix hf
        have hne : payloadCount w = k.maxPayload := by omega
        simp [hne]
      · simp [hf]
  rw [if_neg (by rw [hbad]; simp), hshown]
  simp only [List.dropLast_concat]

end Sys2Proof.Machine
end

