-- ==== Sys2Proof/Laws/Operands.lean ====
section
/-! SUPPORT. The small lemmas of operand fields, rows and queue searches. -/

namespace Sys2Proof.Machine

theorem finOf?_of_lt {n v : Nat} (h : v < n) : finOf? n v = some ⟨v, h⟩ := dif_pos h
theorem finOf?_of_le {n v : Nat} (h : n ≤ v) : finOf? n v = none := dif_neg (by omega)
@[simp] theorem finOf?_val {n : Nat} (i : Fin n) : finOf? n i.val = some i := dif_pos i.isLt

/-- The operand code of a request with one operand word. -/
theorem operandCode_one {rq : Request} {w : Word} (h : rq.operands = [w]) : operandCode rq = some (w.extractLsb' 0 8) := by
  simp [operandCode, h]

/-- A request with no operand word, or several, has no operand code. -/
theorem operandCode_none {rq : Request} (h : rq.operands.length ≠ 1) : operandCode rq = none := by
  unfold operandCode; split
  · rename_i h2; simp [h2] at h
  · rfl

/-- The records after the first one of a number. -/
theorem recordsAfter_eq {n : Seq} (before : List ExceptionRecord) (r : ExceptionRecord) (later : List ExceptionRecord)
    (hr : r.seq = n) (hb : ∀ k ∈ before, k.seq ≠ n) : recordsAfter n (before ++ r :: later) = some later := by
  induction before with
  | nil => simp [recordsAfter, hr]
  | cons k ks ih =>
    rw [List.cons_append, recordsAfter, if_neg (hb k (by simp))]
    exact ih fun x hx => hb x (by simp [hx])

/-- No record of a number. -/
theorem recordsAfter_none {n : Seq} (queue : List ExceptionRecord) (h : ∀ k ∈ queue, k.seq ≠ n) :
    recordsAfter n queue = none := by
  induction queue with
  | nil => rfl
  | cons k ks ih => rw [recordsAfter, if_neg (h k (by simp))]; exact ih fun x hx => h x (by simp [hx])

/-- What the queue was where the records after a number are found. -/
theorem recordsAfter_some {n : Seq} {queue later : List ExceptionRecord} (h : recordsAfter n queue = some later) :
    ∃ before r, queue = before ++ r :: later ∧ r.seq = n := by
  induction queue with
  | nil => simp [recordsAfter] at h
  | cons k ks ih =>
    rw [recordsAfter] at h
    split at h
    · rename_i hk; exact ⟨[], k, by simpa using h, hk⟩
    · obtain ⟨before, r, hq, hr⟩ := ih h
      exact ⟨k :: before, r, by simp [hq], hr⟩

end Sys2Proof.Machine
end

