-- ==== Sys2Proof/Laws/PerInstr.lean ====
section
/-! SUPPORT. Statements about every command, one lemma for each constructor of `Instr`. -/

namespace Sys2Proof.Laws.RequestFits

/-- The request of a well-formed request row has at most 32 operand words (Table 11-1); a command that is no request row has
none. -/
def Statement (i : Instr) : Prop :=
  i.wellFormed = true → ∀ rq, i.request? = some rq → rq.operands.length ≤ 32

/-- A row whose check begins with `requestFits` keeps to 32 operand words. -/
theorem of_fits {i : Instr} {rq : Request} {b : Bool} (hw : i.wellFormed = (requestFits rq && b))
    (hr : i.request? = some rq) : Statement i := by
  intro h r hq
  rw [hr] at hq
  rw [hw] at h
  obtain rfl := Option.some.inj hq
  simp only [requestFits, Bool.and_eq_true, decide_eq_true_eq] at h
  exact h.1

/-- A command that carries no request. -/
theorem of_none {i : Instr} (hr : i.request? = none) : Statement i := by
  intro _ r hq
  rw [hr] at hq
  cases hq

theorem deviceReset : Statement .deviceReset := of_none rfl
theorem symbolLock (lane : Side) : Statement (.symbolLock lane) := of_none rfl
theorem lossOfLock (lane : Side) : Statement (.lossOfLock lane) := of_none rfl
theorem idleSymbol (lane : Side) : Statement (.idleSymbol lane) := of_none rfl
theorem invalidSymbol (lane : Side) : Statement (.invalidSymbol lane) := of_none rfl
theorem startSymbol (lane : Side) : Statement (.startSymbol lane) := of_none rfl
theorem dataWordSymbol (lane : Side) (word : Word) : Statement (.dataWordSymbol lane word) := of_none rfl
theorem aReceiveFrameEnd : Statement .aReceiveFrameEnd := of_none rfl
theorem cReceiveFrameEnd : Statement .cReceiveFrameEnd := of_none rfl
theorem enumerate (address : Address) : Statement (.enumerate address) := of_none rfl
theorem creditDataReceived (lane : Side) : Statement (.creditDataReceived lane) := of_none rfl
theorem creditControlReceived (lane : Side) : Statement (.creditControlReceived lane) := of_none rfl
theorem creditResetReceived (lane : Side) : Statement (.creditResetReceived lane) := of_none rfl
theorem egressStart : Statement .egressStart := of_none rfl
theorem transmitFrameEnd (lane : Side) : Statement (.transmitFrameEnd lane) := of_none rfl
theorem aTransmitCreditSymbol : Statement .aTransmitCreditSymbol := of_none rfl
theorem forwardFifoStart : Statement .forwardFifoStart := of_none rfl
theorem answerListEntry : Statement .answerListEntry := of_none rfl
theorem engineTake : Statement .engineTake := of_none rfl
theorem slotConversion : Statement .slotConversion := of_none rfl
theorem conversionCompletion : Statement .conversionCompletion := of_none rfl
theorem holdTimerExpiry : Statement .holdTimerExpiry := of_none rfl
theorem releaseEntry : Statement .releaseEntry := of_none rfl
theorem coalescingTimerExpiry : Statement .coalescingTimerExpiry := of_none rfl
theorem reminderTimerExpiry : Statement .reminderTimerExpiry := of_none rfl
theorem validationFailure : Statement .validationFailure := of_none rfl
theorem compilationEnd : Statement .compilationEnd := of_none rfl
theorem swap : Statement .swap := of_none rfl
theorem identify (rq : Request) : Statement (.identify rq) := of_fits rfl rfl
theorem readStatus (rq : Request) : Statement (.readStatus rq) := of_fits rfl rfl
theorem writeChannel (rq : Request) : Statement (.writeChannel rq) := of_fits rfl rfl
theorem readChannel (rq : Request) : Statement (.readChannel rq) := of_fits rfl rfl
theorem writeStream (rq : Request) : Statement (.writeStream rq) := of_fits rfl rfl
theorem readStream (rq : Request) : Statement (.readStream rq) := of_fits rfl rfl
theorem writeClass (rq : Request) : Statement (.writeClass rq) := of_fits rfl rfl
theorem readClass (rq : Request) : Statement (.readClass rq) := of_fits rfl rfl
theorem copyActive (rq : Request) : Statement (.copyActive rq) := of_fits rfl rfl
theorem commit (rq : Request) : Statement (.commit rq) := of_fits rfl rfl
theorem readLayout (rq : Request) : Statement (.readLayout rq) := of_fits rfl rfl
theorem fetchExceptions (rq : Request) : Statement (.fetchExceptions rq) := of_fits rfl rfl
theorem ackExceptions (rq : Request) : Statement (.ackExceptions rq) := of_fits rfl rfl
theorem readSticky (rq : Request) : Statement (.readSticky rq) := of_fits rfl rfl
theorem clearSticky (rq : Request) : Statement (.clearSticky rq) := of_fits rfl rfl
theorem releaseHoldForward (rq : Request) : Statement (.releaseHoldForward rq) := of_fits rfl rfl
theorem releaseHoldDiscard (rq : Request) : Statement (.releaseHoldDiscard rq) := of_fits rfl rfl
theorem readCounters (rq : Request) : Statement (.readCounters rq) := of_fits rfl rfl
theorem clearCounters (rq : Request) : Statement (.clearCounters rq) := of_fits rfl rfl
theorem setParameter (rq : Request) : Statement (.setParameter rq) := of_fits rfl rfl
theorem readParameter (rq : Request) : Statement (.readParameter rq) := of_fits rfl rfl
theorem resetPipeline (rq : Request) : Statement (.resetPipeline rq) := of_fits rfl rfl
theorem resetExceptions (rq : Request) : Statement (.resetExceptions rq) := of_fits rfl rfl
theorem resetAll (rq : Request) : Statement (.resetAll rq) := of_fits rfl rfl
theorem undefinedCommand (rq : Request) : Statement (.undefinedCommand rq) := of_fits rfl rfl

end Sys2Proof.Laws.RequestFits
end

