-- ==== Sys2Proof/Tests/Slice0.lean ====
section
/-! SUPPORT. Tests: ill-formed commands, the manual's worked examples, and a state that meets the hypotheses of each statement. -/

namespace Sys2Proof.Tests.Slice0

set_option Elab.async false

open Machine

/-! ## Well-formed commands: one ill-formed command for each check -/

/-- A request of the given command code and operand words, addressed to node 1 with tag 7. -/
def ask (code : BitVec 8) (operands : List Word) : Request := ⟨1, 7, code, operands⟩

theorem test_wellFormed_admits : (Instr.identify (ask 0x01 [])).wellFormed = true := by decide
theorem test_wellFormed_refuses_code : (Instr.identify (ask 0x02 [])).wellFormed = false := by decide
theorem test_wellFormed_refuses_count :
    (Instr.readStatus (ask 0x02 (List.replicate 33 0))).wellFormed = false := by decide
theorem test_wellFormed_refuses_release :
    (Instr.releaseHoldForward (ask 0x10 [2])).wellFormed = false ∧
    (Instr.releaseHoldDiscard (ask 0x10 [1])).wellFormed = false := by decide
theorem test_wellFormed_refuses_scope :
    (Instr.resetPipeline (ask 0x15 [3])).wellFormed = false ∧ (Instr.resetExceptions (ask 0x15 [1])).wellFormed = false ∧
    (Instr.resetAll (ask 0x15 [2])).wellFormed = false := by decide
theorem test_wellFormed_refuses_defined : (Instr.undefinedCommand (ask 0x15 [])).wellFormed = false := by decide

/-! ## Small states -/

/-- Both receive lanes in a state, with counts. -/
def lanes (state : RxState) (idle invalid : Nat) (a : Option Assembly) : State :=
  { State.reset with aRx := ⟨state, idle, invalid, a⟩, cRx := ⟨state, idle, invalid, a⟩ }

/-- Both lanes UP, between frames. -/
def up : State := lanes .up 16 0 none

/-- Both lanes UP, inside a frame of the given words. -/
def within (words : List Word) : State := lanes .up 16 0 (some ⟨words, false, false⟩)

/-- The exception unit in a notice state with its timer. -/
def notice (n : NoticeState) (left count : Nat) : State :=
  { State.reset with exc := { ExceptionUnit.reset with
      notice := n, reminderCount := count
      coalescing := if n = .gathering then some left else none
      reminder := if n = .announced then some left else none } }

/-- A conditioned frame with no payload. -/
def small : CondFrame := ⟨true, false, false, false, false, 1, 7, 3, 5, 0, 2, []⟩

/-- A REQUEST at the head of the request queue of a state. -/
def asked (s : State) (rq : Request) : State := { s with requests := [rq] }

/-- The status and the data of the newest response after an outcome. -/
def reply : Host.Outcome State Fault Refusal → Option (Status × List Word)
  | .next t =>
    match t.responses.getLast? with
    | some (.response r) => some (r.status, r.data)
    | _ => none
  | _ => none

/-- A field of the state after an outcome. -/
def after {α : Type} (f : State → α) : Host.Outcome State Fault Refusal → Option α
  | .next t => some (f t)
  | _ => none

/-- A request alone in the queue of a part that is otherwise idle is taken and reaches its command's tests: the hypotheses of every
statement about a command. -/
theorem witness_takes (s : State) (rq : Request) (h1 : s.responses = []) (h2 : s.answers = []) (h3 : s.deferredCommit = none)
    (h4 : s.deferredRelease = none) (h5 : s.cache = []) (h6 : rq.dest ≠ 63) : Takes (asked s rq) rq [] where
  front := rfl
  room := by simp [asked, h1]
  noAnswers := h2
  commitTag := by simp [asked, h3]
  releaseTag := by simp [asked, h4]
  notCached := by simp [asked, h5]
  cleared := by simp [asked, h5]
  admitted := fun h => absurd h h6

theorem witness_takes_reset (code : BitVec 8) (operands : List Word) :
    Takes (asked State.reset (ask code operands)) (ask code operands) [] :=
  witness_takes _ _ rfl rfl rfl rfl rfl (show (1 : Address) ≠ 63 by decide)

/-! ## Step and lanes -/

theorem test_step_takes_front :
    after (·.aRx.state) (step { State.reset with pending := [.symbolLock .a] }) = some .syncing := by decide

theorem witness_IdleStepIsOneMillisecond :
    (notice .gathering 2 0).pending = [] ∧ (notice .gathering 2 0).exc.coalescing = some 2 ∧
    (notice .gathering 1 0).exc.notice = .gathering ∧ (notice .gathering 1 0).exc.coalescing = some 1 ∧
    (notice .gathering 1 0).exc.reminder = none ∧ (notice .announced 1 0).exc.notice = .announced ∧
    (notice .announced 1 0).exc.reminder = some 1 ∧ (notice .announced 1 0).exc.coalescing = none ∧
    after (·.hold) (step { State.reset with hold := .held small (some 2) }) = some (.held small (some 1)) ∧
    after (·.hold) (step { State.reset with hold := .held small (some 1) }) = some .empty ∧
    after (fun t => (t.exc.notice, t.hold)) (step { notice .gathering 1 0 with hold := .held small (some 2) }) =
      some (.announced, .held small (some 1)) := by decide

theorem test_symbolLock : after (·.cRx) (exec (.symbolLock .c) State.reset) = some ⟨.syncing, 0, 0, none⟩ := by decide

/-- R149: an UP lane that goes DOWN inside a frame counts a lane down and a truncated frame. -/
theorem test_lossOfLock :
    after (fun t => (t.aRx.state, t.laneCounters.a.laneDowns, t.laneCounters.a.truncated)) (exec (.lossOfLock .a) (within [])) =
      some (.down, 1, 1) := by decide

theorem witness_LockAndLoss :
    (State.reset.rx .a).state = .down ∧ (lanes .syncing 3 0 none).aRx.state = .syncing ∧
    (lanes .syncing 3 0 none).cRx.state = .syncing ∧ up.aRx.state = .up ∧ up.cRx.state = .up := by decide

/-- R144: the sixteenth IDLE makes the lane UP; the fifteenth does not. -/
theorem test_idleSymbol :
    after (·.aRx.state) (exec (.idleSymbol .a) (lanes .syncing 15 0 none)) = some .up ∧
    after (·.aRx.state) (exec (.idleSymbol .a) (lanes .syncing 14 0 none)) = some .syncing := by decide

/-- R160: the credit restart decided when A-receive becomes UP. -/
theorem test_idleSymbol_restart :
    after (fun t => (t.grants.length, t.outstanding)) (exec (.idleSymbol .a) (lanes .syncing 15 0 none)) = some (13, 8) := by
  decide

theorem witness_IdleRun :
    (State.reset.rx .c).state = .down ∧ ((lanes .syncing 14 0 none).rx .a).idleCount < 15 ∧
    (lanes .syncing 15 0 none).cRx.state = .syncing ∧ (lanes .syncing 15 0 none).cRx.idleCount = 15 ∧
    (lanes .syncing 15 0 none).aRx.idleCount = 15 ∧ (up.rx .c).assembly = none ∧
    ((within [1]).rx .a).assembly = some ⟨[1], false, false⟩ := by decide

/-- R144: the fourth invalid symbol of a run makes the lane DOWN; the third does not. -/
theorem test_invalidSymbol :
    after (·.cRx.state) (exec (.invalidSymbol .c) (lanes .up 16 3 none)) = some .down ∧
    after (·.cRx.state) (exec (.invalidSymbol .c) (lanes .up 16 2 none)) = some .up := by decide

theorem witness_InvalidRun :
    (State.reset.rx .a).state = .down ∧ ((lanes .syncing 3 0 none).rx .a).state = .syncing ∧
    ((lanes .up 16 2 none).rx .a).invalidCount < 3 ∧ ((lanes .up 16 3 none).rx .a).invalidCount = 3 := by decide

theorem test_startSymbol : after (·.aRx.assembly) (exec (.startSymbol .a) up) = some (some ⟨[], false, false⟩) := by decide

/-- R146: a data word between frames is counted as malformed. -/
theorem test_dataWordSymbol :
    after (·.aRx.assembly) (exec (.dataWordSymbol .a 9) (within [1])) = some (some ⟨[1, 9], false, false⟩) ∧
    after (·.laneCounters.a.malformed) (exec (.dataWordSymbol .a 9) up) = some 1 := by decide

theorem witness_FramesOpenAndGather :
    (State.reset.rx .a).state = .down ∧ ((lanes .syncing 3 0 none).rx .a).state = .syncing ∧
    (up.rx .a).state = .up ∧ (up.rx .a).assembly = none ∧ ((within [1]).rx .a).assembly = some ⟨[1], false, false⟩ := by decide

/-! ## Frames -/

/-- R147: the check value of the eight bytes 31 to 38 under preset hex FFFF and polynomial hex 1021, computed by hand outside the
model, is hex A12B. -/
theorem test_crc : crcOf [0x31323334, 0x35363738] = 0x0000A12B := by decide +kernel

/-- A raw DATA frame of stream 3 with one sample. -/
def dataWords : List Word := [0x10000301, 0x00050000, 0x00000000, 0x00000000, 0x00000060]

theorem witness_WholeDataFrameIsReceived :
    IsFrame .data dataWords ∧ up.aRx.state = .up ∧ up.aRx.assembly = none ∧ up.ingress.length < 8 := by
  refine ⟨⟨⟨0x10000301, [0x00050000, 0, 0, 0x60], rfl, ?_, ?_⟩, ?_, ?_, ?_⟩, ?_, ?_, ?_⟩ <;> decide +kernel

theorem witness_WholeRequestIsReceived :
    let s : State := { up with nodeAddress := 1 }
    (ask 0x01 []).operands.length ≤ 32 ∧ (ask 0x01 []).dest = s.nodeAddress ∧ s.nodeAddress ≠ 0 ∧ s.nodeAddress ≠ 63 ∧
    s.cRx.state = .up ∧ s.cRx.assembly = none ∧ s.requests.length < 4 := by decide

/-- A frame on both lanes, closed but for its END. -/
def closing (words : List Word) : State := within (words ++ [crcOf words])

/-- A REPORT header with three payload words, and a REQUEST without operands addressed to 63. -/
def reportWords : List Word := [0x60400003, 1, 2, 3]
def broadcastWords : List Word := [0x2FC00700, 0x00000001]
def requestWords : List Word := [0x20400700, 0x00000001]

def verdictOf (words : List Word) : FrameVerdict := (Assembly.mk (words ++ [crcOf words]) false false).verdict

theorem test_aReceiveFrameEnd :
    after (·.ingress.length) (exec .aReceiveFrameEnd (closing dataWords)) = some 1 ∧
    after (·.transit.length) (exec .aReceiveFrameEnd (closing reportWords)) = some 1 := by decide +kernel

theorem witness_AReceiveSorts :
    State.reset.aRx.state = .down ∧ (lanes .syncing 3 0 none).aRx.state = .syncing ∧ up.aRx.assembly = none ∧
    verdictOf dataWords = .pass .data ⟨dataWords⟩ ∧ verdictOf reportWords = .pass .report ⟨reportWords⟩ ∧
    verdictOf requestWords = .pass .request ⟨requestWords⟩ ∧
    ({ up with ingress := List.replicate 7 ⟨dataWords⟩ } : State).ingress.length < 8 ∧
    8 ≤ ({ up with ingress := List.replicate 8 ⟨dataWords⟩ } : State).ingress.length ∧
    4 ≤ ({ up with transit := List.replicate 4 ⟨reportWords⟩ } : State).transit.length := by decide +kernel

theorem witness_DroppedDataIsGranted :
    let b : Assembly := ⟨dataWords ++ [0], false, false⟩
    b.verdict = .fail .crcError ∧ b.shownKind = some .data ∧ 0 < ({ up with outstanding := 1 } : State).outstanding ∧
    up.pendingGrants .data < 8 ∧
    8 ≤ ({ up with grants := List.replicate 8 .data } : State).pendingGrants .data ∧ up.outstanding = 0 := by decide +kernel

/-- R148: a payload count of 64 is not too long for DATA and one of 65 is; the buffer's limit; an empty frame; a marked frame. -/
theorem test_checks_of_a_frame :
    verdictOf [0x10000340, 0, 0, 0] = .fail .malformed ∧ verdictOf [0x10000341, 0, 0, 0] = .fail .tooLong ∧
    wordLimit dataWords = 69 ∧ wordLimit [0x70000000] = 101 ∧
    (Assembly.mk dataWords true false).verdict = .fail .tooLong ∧ (Assembly.mk [] false false).verdict = .fail .malformed ∧
    (Assembly.mk (dataWords ++ [crcOf dataWords]) false true).verdict = .fail .crcError := by decide +kernel

/-- R148, content: no kind, a payload count that does not agree, a raw DATA frame without samples, a NOTICE of two words. -/
theorem test_content_of_a_frame :
    verdictOf [0x70000000] = .fail .malformed ∧ verdictOf [0x10000302, 0, 0, 0, 0] = .fail .malformed ∧
    verdictOf [0x10000300, 0, 0, 0] = .fail .malformed ∧ verdictOf [0x40000002, 0, 0] = .fail .malformed := by decide +kernel

theorem test_cReceiveFrameEnd :
    after (fun t => (t.requests.length, t.forward.length)) (exec .cReceiveFrameEnd (closing broadcastWords)) = some (1, 1) ∧
    after (fun t => (t.requests.length, t.forward.length)) (exec .cReceiveFrameEnd (closing requestWords)) = some (0, 1) := by
  decide +kernel

theorem witness_CReceiveSorts :
    (closing requestWords).cRx.state = .up ∧ verdictOf broadcastWords = .pass .request ⟨broadcastWords⟩ ∧
    (Frame.mk broadcastWords).request.dest = 63 ∧ (Frame.mk requestWords).request.dest = 1 ∧
    verdictOf requestWords = .pass .request ⟨requestWords⟩ ∧ verdictOf dataWords = .pass .data ⟨dataWords⟩ ∧
    (Assembly.mk [0x20400700] false false).verdict = .fail .malformed ∧ State.reset.cRx.state = .down ∧
    (lanes .syncing 3 0 none).cRx.state = .syncing ∧ up.cRx.assembly = none := by decide +kernel

/-- An ENUMERATE frame carrying an address (R188). -/
def enumerateWords (a : Word) : List Word := [0x50000001, a]

/-- R164: address 62 gives the part 62 and sends 0 upstream; 63 is taken as 0. -/
theorem test_enumerate :
    after (fun t => (t.nodeAddress, t.forward, t.responses)) (exec (.enumerate 62) (closing (enumerateWords 62))) =
      some (62, [⟨[0x50000001, 0]⟩], [.report 62]) ∧
    after (fun t => (t.nodeAddress, t.responses)) (exec (.enumerate 63) (closing (enumerateWords 63))) = some (0, []) := by
  decide +kernel

theorem witness_EnumerationIsTaken :
    (closing (enumerateWords 5)).cRx.state = .up ∧ verdictOf (enumerateWords 5) = .pass .enumerate ⟨enumerateWords 5⟩ ∧
    verdictOf (enumerateWords 63) = .pass .enumerate ⟨enumerateWords 63⟩ ∧
    ((enumerateWords 63).getD 1 0).extractLsb' 0 6 = (63 : Address) ∧ up.cRx.assembly = none := by decide +kernel

/-! ## Credits and transmit lanes -/

/-- R155: the data counter stays at 15, the control counter at 7. -/
theorem test_creditDataReceived :
    after (·.dataCredits) (exec (.creditDataReceived .c) { up with dataCredits := 15 }) = some 15 ∧
    after (·.dataCredits) (exec (.creditDataReceived .a) up) = some 0 := by decide
theorem test_creditControlReceived :
    after (·.controlCredits) (exec (.creditControlReceived .c) { up with controlCredits := 6 }) = some 7 ∧
    after (·.controlCredits) (exec (.creditControlReceived .c) { up with controlCredits := 7 }) = some 7 := by decide
theorem test_creditResetReceived :
    after (fun t => (t.dataCredits, t.controlCredits))
      (exec (.creditResetReceived .c) { up with dataCredits := 3, controlCredits := 2 }) = some (0, 0) := by decide

theorem witness_CreditSymbolsReceived :
    up.cRx.state = .up ∧ up.aRx.state = .up ∧ (State.reset.rx .c).state = .down ∧
    ((lanes .syncing 3 0 none).rx .c).state = .syncing := by decide

/-- A state with credits in which every source of the egress arbiter but the response queue holds a frame. -/
def sources : State :=
  { up with
    dataCredits := 1, controlCredits := 1, transit := [⟨reportWords⟩], outQueue := [.passed ⟨dataWords⟩]
    exc := { ExceptionUnit.reset with slot := some .interval } }

/-- R157: the notice goes before the transit FIFO, and DATA goes when no control credit stands. -/
theorem test_egressStart :
    after (fun t => (t.exc.slot, t.transit.length, t.controlCredits)) (exec .egressStart sources) = some (none, 1, 0) ∧
    after (fun t => (t.outQueue, t.dataCredits)) (exec .egressStart { sources with controlCredits := 0 }) = some ([], 0) := by
  decide +kernel

theorem witness_EgressOrder :
    sources.cTx = .idle ∧ 0 < sources.controlCredits ∧ sources.responses = [] ∧ sources.exc.slot = some .interval ∧
    ({ sources with responses := [.report 1] } : State).responses = [.report 1] ∧
    ({ sources with exc := .reset } : State).exc.slot = none ∧ sources.transit = [⟨reportWords⟩] ∧
    ({ sources with controlCredits := 0 } : State).controlCredits = 0 ∧ 0 < sources.dataCredits ∧
    sources.outQueue = [.passed ⟨dataWords⟩] ∧ State.reset.dataCredits = 0 ∧ State.reset.transit = [] ∧
    ({ up with cTx := .sending [] } : State).cTx = .sending [] := by decide

theorem test_transmitFrameEnd : after (·.cTx) (exec (.transmitFrameEnd .c) { up with cTx := .sending [1] }) = some .idle := by
  decide
theorem test_aTransmitCreditSymbol :
    after (fun t => (t.grants, t.lastCreditSent)) (exec .aTransmitCreditSymbol { up with grants := [.reset, .data] }) =
      some ([.data], some .reset) := by decide
/-- R154: a pending credit symbol goes first. -/
theorem test_forwardFifoStart :
    after (·.forward.length) (exec .forwardFifoStart { up with forward := [⟨requestWords⟩], grants := [.data] }) = some 1 ∧
    after (·.forward.length) (exec .forwardFifoStart { up with forward := [⟨requestWords⟩] }) = some 0 := by decide +kernel

theorem witness_TransmitLanes :
    up.aTx = .idle ∧ ({ up with grants := [.data] } : State).grants = [.data] ∧ up.grants = [] ∧
    ({ up with forward := [⟨requestWords⟩] } : State).forward = [⟨requestWords⟩] ∧
    ({ up with aTx := .sending [1] } : State).aTx = .sending [1] := by decide

theorem test_answerListEntry :
    after (fun t => (t.answers, t.responses)) (exec .answerListEntry { up with answers := [.report 1], responses := [.report 2] }) =
      some ([], [.report 2, .report 1]) := by decide

theorem witness_AnswersArePlaced :
    State.reset.answers = [] ∧ State.reset.responses.length < 2 ∧
    ({ up with answers := [.report 1] } : State).answers ≠ [] ∧
    2 ≤ ({ up with responses := [.report 1, .report 1] } : State).responses.length := by decide

/-! ## The conversion engine -/

/-- A bank with stream record 2 enabled for input stream id 3 and one PRIMARY channel, 5, of that stream. -/
def oneChannel (d : Descriptor) : Bank :=
  (Bank.reset.setStream 2 ⟨true, 3, 9, 1⟩).setChannel 5 { d with kind := .primary, stream := 2 }

/-- The part with that bank in force and a raw DATA frame of stream 3 waiting. -/
def loaded (d : Descriptor) : State :=
  { up with active := oneChannel d, layouts := compileLayouts (oneChannel d), ingress := [⟨dataWords⟩] }

/-- A conversion of that frame with the slots that remain. -/
def converting (remaining : List SlotEntry) (diverting : Bool) : Conversion := ⟨0, 2, false, false, diverting, remaining, [0]⟩

def entry5 : SlotEntry := ⟨0, 1, 5, .primary⟩

/-- R60, R63: the take of a matching frame makes the expected sequence one more than the frame's. -/
theorem test_engineTake :
    after (fun t => (t.engine, (t.runtime.get 2).expected)) (exec .engineTake (loaded .reset)) =
      some (.converting (converting [entry5] false), 6) := by decide +kernel

/-- R61: a conditioned frame is forwarded and counted. -/
theorem test_engineTake_forwards :
    after (fun t => (t.outQueue.length, t.ingress, t.engineCounters.conditionedForwarded, t.outstanding))
      (exec .engineTake { up with ingress := [⟨[0x18000300, 0, 0, 0]⟩] }) = some (1, [], 1, 1) := by decide +kernel

theorem witness_EngineForwards :
    (Frame.mk [0x18000300, 0, 0, 0]).conditioned = true ∧ (Frame.mk dataWords).conditioned = false ∧
    (∀ i : Fin 8, (Bank.reset.stream i).enabled = false) ∧ up.params.unmatched = .forward ∧ up.engine = .idle ∧
    ({ up with outQueue := List.replicate 3 (.passed ⟨dataWords⟩) } : State).outQueue.length < 4 ∧
    4 ≤ ({ up with outQueue := List.replicate 4 (.passed ⟨dataWords⟩) } : State).outQueue.length ∧
    up.ingress = [] ∧ up.phase ≠ .swapPending := by decide +kernel

theorem witness_EngineConverts :
    let s := loaded .reset
    let f : Frame := ⟨dataWords⟩
    s.ingress = [f] ∧ s.engine = .idle ∧ s.outQueue.length < 4 ∧ s.hold = .empty ∧ s.phase ≠ .swapPending ∧
    f.conditioned = false ∧ (s.active.stream 2).enabled = true ∧ (s.active.stream 2).inputId = f.streamId ∧
    (∀ j : Fin 8, j < 2 → (s.active.stream j).enabled = false) ∧ s.layouts.get 2 = some ⟨[entry5], 1⟩ := by decide +kernel

/-- 1.9.3: the descriptor whose SR output wraps. -/
def wrapping : Descriptor := { Descriptor.reset with outputFormat := .sr, gain := 0x47E8000000000000#64, overflow := .wrap }

/-- R45, R46, R65: the slot is written, the sticky flag set and one record stored. -/
theorem test_slotConversion :
    after (fun t => (t.engine, (t.sticky.get 5).overflow, t.exc.queue.map (·.exponent)))
      (exec .slotConversion { loaded wrapping with engine := .converting (converting [entry5] false) }) =
      some (.converting { converting [] false with exception := true, payload := [0x00E00000] }, true, [some 260]) := by
  decide +kernel

theorem witness_SlotIsSettled :
    let s : State := { loaded wrapping with engine := .converting (converting [entry5] false) }
    s.ingress = [⟨dataWords⟩] ∧ (converting [entry5] false).remaining = [entry5] ∧
    (settleSlot s.active (Frame.mk dataWords).payload entry5).condition.isSome = true ∧
    (settleSlot (oneChannel .reset) (Frame.mk dataWords).payload entry5).condition = none := by decide +kernel

/-- R70, R112: a diverting frame enters the EMPTY hold with the timer at HOLD_TIMEOUT, another one the output queue. -/
theorem test_conversionCompletion :
    after (fun t => (t.outQueue.length, t.engine, (t.runtime.get 2).nextOutput))
      (exec .conversionCompletion { loaded .reset with engine := .converting (converting [] false) }) = some (1, .idle, 1) ∧
    after (fun t => (t.outQueue.length, t.hold.code))
      (exec .conversionCompletion { loaded .reset with engine := .converting (converting [] true) }) = some (0, 1) := by
  decide +kernel

theorem witness_ConversionCompletes :
    let s : State := { loaded .reset with engine := .converting (converting [] true) }
    s.engine = .converting (converting [] true) ∧ (converting [] false).diverting = false ∧ s.ingress = [⟨dataWords⟩] ∧
    s.hold = .empty ∧ ({ s with hold := .held small none } : State).hold ≠ .empty := by decide +kernel

/-- R127, R128: the record that finds 31 queued is stored, the one that finds 32 is lost. -/
theorem witness_RecordsAreStoredOrLost :
    let r := frameRecord .holdBusy 0 2 5
    let full (n : Nat) : ExceptionUnit := { ExceptionUnit.reset with queue := List.replicate n r, notice := .gathering }
    ((full 31).take .reset r).queue.length = 32 ∧ ((full 32).take .reset r).lost = 1 ∧
    (full 7).queue.length + 1 = Params.reset.noticeThreshold ∧ ((full 7).take .reset r).slot = some .threshold ∧
    (full 8).queue.length + 1 ≠ Params.reset.noticeThreshold := by decide

/-! ## Hold, notices, commit -/

theorem test_holdTimerExpiry :
    after (fun t => (t.hold, t.outQueue, t.holdCounters.timeouts)) (exec .holdTimerExpiry { up with hold := .held small (some 1) }) =
      some (.empty, [.conditioned { small with timedOut := true }], 1) := by decide
theorem test_releaseEntry :
    after (fun t => (t.hold, t.outQueue.length)) (exec .releaseEntry { up with hold := .releasing small .timeout }) =
      some (.empty, 1) := by decide

theorem witness_HoldReleases :
    ({ up with hold := .held small (some 1) } : State).hold = .held small (some 1) ∧
    ({ up with hold := .held small none } : State).hold = .held small none ∧
    decide (up.outQueue.length + up.outReserved < 4) = true ∧
    decide (4 + up.outReserved < 4) = false ∧
    ({ up with hold := .releasing small .request, deferredRelease := some (ask 0x10 [1]) } : State).deferredRelease =
      some (ask 0x10 [1]) := by decide

/-- R136, R137. -/
theorem test_coalescingTimerExpiry :
    after (fun t => (t.exc.notice, t.exc.slot, t.exc.reminder)) (exec .coalescingTimerExpiry (notice .gathering 1 0)) =
      some (.announced, some .interval, some 100) := by decide
theorem test_reminderTimerExpiry :
    after (fun t => (t.exc.notice, t.exc.reminderCount)) (exec .reminderTimerExpiry (notice .announced 1 2)) = some (.quiet, 3) ∧
    after (fun t => (t.exc.notice, t.exc.reminderCount)) (exec .reminderTimerExpiry (notice .announced 1 1)) = some (.announced, 2) := by
  decide

theorem witness_NoticeTimersExpire :
    (notice .gathering 1 0).exc.coalescing = some 1 ∧ (notice .announced 1 1).exc.reminderCount < 2 ∧
    (notice .announced 1 2).exc.reminder = some 1 ∧ State.reset.exc.notice = .quiet := by decide

/-- A commit in progress over a shadow bank. -/
def committing (phase : CommitPhase) (b : Bank) : State :=
  { up with
    phase := phase, shadow := b, deferredCommit := some ⟨1, 6, 0x0A, []⟩
    pendingLayouts := if phase = .swapPending then some (compileLayouts b) else none }

/-- A bank whose channel 5 names the disabled stream 2. -/
def badBank : Bank := Bank.reset.setChannel 5 { Descriptor.reset with kind := .primary, stream := 2 }

/-- R99, R104: BAD_STREAM_REF, code 2, channel 5, stream 2. -/
theorem test_validationFailure :
    reply (exec .validationFailure (committing .compiling badBank)) = some (.commitFailed, [0x00000205, 0x00000102]) := by
  decide +kernel
theorem test_compilationEnd :
    after (·.phase) (exec .compilationEnd (committing .compiling (oneChannel .reset))) = some .swapPending := by decide +kernel
/-- R93, R107: generation 65535 is followed by 1. -/
theorem test_swap :
    reply (exec .swap { committing .swapPending (oneChannel .reset) with generation := 65535 }) = some (.ok, [1]) ∧
    after (fun t => ((t.active.stream 2).enabled, t.phase)) (exec .swap (committing .swapPending (oneChannel .reset))) =
      some (true, .idle) := by decide +kernel

/-- R110, R172: the answer of a commit enters the cache, and the COMMIT repeated with the same tag is executed afresh where an
ENUMERATE crossed the commit, and answered by the replay where none did. -/
theorem test_commit_crossed :
    let s := { committing .swapPending .reset with cRx := (closing (enumerateWords 5)).cRx }
    after (fun t => (t.commitEnumerated, t.deferredCommit.isSome)) (exec (.enumerate 5) s) = some (true, true) ∧
    after (fun t => (t.cache.map (·.crossed), t.commitEnumerated)) (run [.enumerate 5, .swap] s) = some ([true], false) ∧
    (let again (events : List Instr) : Option (CommitPhase × Counter) :=
      match run events s with
      | .next t => after (fun u => (u.phase, u.replays)) (exec (.commit ⟨1, 6, 0x0A, []⟩)
          { t with requests := [⟨1, 6, 0x0A, []⟩], responses := [] })
      | _ => none
     again [.enumerate 5, .swap] = some (.compiling, 0) ∧ again [.swap] = some (.idle, 1)) := by decide +kernel

theorem witness_CommitEnds :
    (committing .compiling badBank).deferredCommit = some ⟨1, 6, 0x0A, []⟩ ∧ (validate badBank).isSome = true ∧
    validate (oneChannel .reset) = none ∧ (committing .swapPending .reset).engine = .idle ∧
    (committing .swapPending .reset).pendingLayouts.isSome = true := by decide +kernel

/-! ## The agent -/

theorem witness_TagTestsComeFirst :
    (Instr.identify (ask 0x01 [])).request? = some (ask 0x01 []) ∧ (Instr.identify (ask 0x01 [])).wellFormed = true ∧
    reply (exec (.identify (ask 0x01 [])) { asked State.reset (ask 0x01 []) with deferredCommit := some (ask 0x0A []) }) =
      some (.inProgress, []) ∧
    reply (exec (.identify (ask 0x01 [])) { asked State.reset (ask 0x01 []) with
      cache := [⟨ask 0x01 [], ⟨1, 7, 0x01, .ok, [5]⟩, false⟩] }) = some (.ok, [5]) := by decide

/-- R168, R174: a broadcast COPY_ACTIVE and the code hex 16 are answered BAD_COMMAND. -/
theorem test_undefinedCommand :
    reply (exec (.undefinedCommand (ask 0x16 [])) (asked State.reset (ask 0x16 []))) = some (.badCommand, []) ∧
    reply (exec (.undefinedCommand (ask 0x00 [])) (asked State.reset (ask 0x00 []))) = some (.badCommand, []) := by decide

theorem witness_BadCommandsAreRefused :
    let rq : Request := ⟨63, 7, 0x09, []⟩
    Untagged (asked State.reset rq) rq [] ∧ (Instr.copyActive rq).wellFormed = true ∧
    reply (exec (.copyActive rq) (asked State.reset rq)) = some (.badCommand, []) :=
  ⟨⟨⟨rfl, by decide, rfl⟩, fun _ h => (nomatch h), fun _ h => (nomatch h), fun _ h => (nomatch h),
    fun _ h => (nomatch h)⟩, by decide, by decide⟩

theorem witness_AgentWaits :
    (Instr.identify (ask 0x01 [])).request? = some (ask 0x01 []) ∧
    2 ≤ ({ up with responses := [.report 1, .report 1] } : State).responses.length ∧
    ({ up with answers := [.report 1] } : State).answers ≠ [] ∧ up.requests.head? ≠ some (ask 0x01 []) := by decide

/-- A cache entry of a tag. -/
def cached (tag : BitVec 8) : CacheEntry := ⟨⟨1, tag, 0x01, []⟩, ⟨1, tag, 0x01, .ok, []⟩, false⟩

theorem witness_CacheKeepsFour :
    [cached 1, cached 2, cached 3, cached 4].length ≤ 4 ∧
    ([cached 1, cached 2, cached 3, cached 4].map fun k => k.request.tag).Nodup ∧
    cacheInsert [cached 1, cached 2, cached 3, cached 4] (cached 5) = [cached 2, cached 3, cached 4, cached 5] ∧
    cacheInsert [cached 1, cached 2, cached 3, cached 4] (cached 2) = [cached 1, cached 3, cached 4, cached 2] := by decide

/-! ## The commands -/

/-- The answer to a request put to a part in a given state. -/
def ans (row : Request → Instr) (s : State) (code : BitVec 8) (operands : List Word) : Option (Status × List Word) :=
  reply (exec (row (ask code operands)) (asked s (ask code operands)))

/-- A field of the state after a request put to a part in a given state. -/
def eff {α : Type} (f : State → α) (row : Request → Instr) (s : State) (code : BitVec 8) (operands : List Word) : Option α :=
  after f (exec (row (ask code operands)) (asked s (ask code operands)))

/-- R188. -/
theorem test_identify :
    ans .identify State.reset 0x01 [] = some (.ok, [0x0A316120, 0x01000080, 0x88840020]) ∧
    ans .identify State.reset 0x01 [0] = some (.badValue, []) := by decide
theorem test_readStatus :
    ans .readStatus { up with nodeAddress := 5 } 0x02 [] = some (.ok, [0x05000000, 0, 0, 0, 0x02020000]) := by decide

theorem witness_IdentifyAndStatus :
    Takes (asked State.reset (ask 0x01 [])) (ask 0x01 []) [] ∧ Takes (asked State.reset (ask 0x02 [0])) (ask 0x02 [0]) [] ∧
    (ask 0x01 []).operands = [] ∧ (ask 0x02 [0]).operands ≠ [] :=
  ⟨witness_takes_reset _ _, witness_takes_reset _ _, by decide⟩

/-- Table 11-4: PRIMARY, SPLIT, CHOP, stream 3, class 5, SR to LR, position 63, EVERY, companion 127; SATURATE, WRAP, DIVERT,
PROPAGATE. -/
def image : List Word := [0x73571FC8, 0x12437F00, 0, 0, 0x3FF80000, 0, 0, 0]

theorem test_decodeDescriptor :
    decodeDescriptor image = some
      { Descriptor.reset with
        kind := .primary, mode := .split, rounding := .chop, stream := 3, outputClass := 5, inputFormat := .sr
        outputFormat := .lr, position := 63, report := .every, companion := some 127, overflow := .saturate
        underflow := .wrap, range := .divert, null := .propagate } := by decide +kernel

/-- R35: an LR input at position 63 is refused. -/
theorem test_decodeDescriptor_refuses : decodeDescriptor (0x73591FC8 :: image.tail) = none := by decide +kernel

/-- R31: channel 127 is the last one; R96: BUSY during a commit. -/
theorem test_writeChannel :
    eff (fun t => (t.shadow.channel 127).stream) .writeChannel State.reset 0x03 (127 :: image) = some 3 ∧
    ans .writeChannel State.reset 0x03 (128 :: image) = some (.badIndex, []) := by decide +kernel
theorem test_writeChannel_refuses :
    ans .writeChannel State.reset 0x03 [127] = some (.badValue, []) ∧
    ans .writeChannel (committing .compiling .reset) 0x03 (128 :: image) = some (.busy, []) := by decide +kernel
theorem witness_WritesReplaceShadowRecords :
    Takes (asked State.reset (ask 0x03 (127 :: image))) (ask 0x03 (127 :: image)) [] ∧ State.reset.phase = .idle ∧
    (committing .compiling .reset).phase ≠ .idle ∧ ((127 : Word).extractLsb' 0 8).toNat = 127 ∧
    127 < ((128 : Word).extractLsb' 0 8).toNat ∧ (decodeDescriptor image).isSome = true ∧ decodeDescriptor [] = none ∧
    (decodeStream [0x40050640]).isSome = true ∧ decodeStream [0x40050641] = none ∧
    (decodeClass [0x08006007]).isSome = true ∧ decodeClass [0x03006007] = none :=
  ⟨witness_takes_reset _ _, by decide +kernel⟩
theorem test_readChannel :
    ans .readChannel State.reset 0x04 [0x0000017F] = some (.ok, [0x00048000, 0, 0, 0, 0x3FF80000, 0, 0, 0]) ∧
    ans .readChannel State.reset 0x04 [0x00000180] = some (.badIndex, []) := by decide +kernel
/-- R191: stream record image: enabled, input id 5, output id 6, 64 words. -/
theorem test_writeStream :
    eff (·.shadow.stream 7) .writeStream State.reset 0x05 [7, 0x40050640] = some ⟨true, 5, 6, 64⟩ ∧
    ans .writeStream State.reset 0x05 [7, 0x40050641] = some (.badValue, []) := by decide +kernel
theorem test_readStream :
    ans .readStream State.reset 0x06 [0x00000203] = some (.ok, [0x00030301]) ∧
    ans .readStream State.reset 0x06 [0x00000303] = some (.badValue, []) := by decide +kernel
theorem test_writeClass :
    eff (·.shadow.classRecord 7) .writeClass State.reset 0x07 [7, 0x08006007] = some ⟨.eight, 96, 7⟩ ∧
    ans .writeClass State.reset 0x07 [8, 0x08006007] = some (.badIndex, []) := by decide +kernel
theorem test_readClass :
    ans .readClass State.reset 0x08 [0x00000107] = some (.ok, [0x01006007]) := by decide +kernel

theorem witness_ReadsReturnImages :
    Takes (asked State.reset (ask 0x04 [0x0000017F])) (ask 0x04 [0x0000017F]) [] ∧
    (0x0000017F : Word).extractLsb' 8 8 = 1 ∧ ((0x0000017F : Word).extractLsb' 0 8).toNat = 127 ∧
    127 < ((0x00000180 : Word).extractLsb' 0 8).toNat ∧ (0x00000303 : Word).extractLsb' 8 8 ≠ 1 ∧
    (0x00000303 : Word).extractLsb' 8 8 ≠ 2 := ⟨witness_takes_reset _ _, by decide⟩

theorem test_copyActive :
    eff (fun t => (t.shadow.stream 2).enabled) .copyActive (loaded .reset) 0x09 [] = some true ∧
    ans .copyActive (committing .swapPending .reset) 0x09 [] = some (.busy, []) := by decide +kernel
/-- A request of another tag reaches its tests while a COMMIT is deferred. -/
theorem witness_CopyActiveCopies :
    let s := asked (committing .swapPending .reset) (ask 0x09 [])
    Takes s (ask 0x09 []) [] ∧ s.phase ≠ .idle ∧ s.engine = .idle ∧ s.pendingLayouts.isSome = true ∧
    State.reset.phase = .idle :=
  ⟨⟨⟨⟨rfl, by decide, rfl⟩, fun d h => by cases h; decide, fun _ h => (nomatch h), fun _ h => (nomatch h),
    fun _ h => (nomatch h)⟩,
      fun h => absurd h (by decide)⟩, by decide⟩

theorem witness_CommitIsDeferred :
    Takes (asked State.reset (ask 0x0A [])) (ask 0x0A []) [] ∧ Takes (asked State.reset (ask 0x0A [0])) (ask 0x0A [0]) [] ∧
    State.reset.phase = .idle ∧ (committing .compiling .reset).phase ≠ .idle ∧ (ask 0x0A [0]).operands ≠ [] :=
  ⟨witness_takes_reset _ _, witness_takes_reset _ _, by decide⟩

/-- The hypotheses of CommitIsDeferred hold too where the cache holds the same COMMIT, crossed by an ENUMERATE (R110). -/
theorem witness_CommitIsDeferred_crossed :
    let s := asked { State.reset with cache := [⟨ask 0x0A [], ⟨1, 7, 0x0A, .ok, [1]⟩, true⟩] } (ask 0x0A [])
    Takes { s with cache := s.cache.filter fun e => !e.crossed } (ask 0x0A []) [] := witness_takes_reset _ _

theorem test_commit :
    eff (fun t => (t.phase, t.responses, t.deferredCommit)) .commit State.reset 0x0A [] =
      some (.compiling, [], some (ask 0x0A [])) ∧
    ans .commit (committing .compiling .reset) 0x0A [] = some (.busy, []) := by decide +kernel

/-- Table 4-3 and Table 4-2 of the worked layout: the channel records of stream 2 that matter to a layout. -/
def workedBank : Bank :=
  let cls (b : Bank) (i : Fin 8) (a : Machine.Alignment) (limit : Nat) (rank : Fin 8) : Bank := b.setClass i ⟨a, limit, rank⟩
  let ch (b : Bank) (i : Fin 128) (kind : ChannelKind) (f : Format) (c : Fin 8) : Bank :=
    b.setChannel i { Descriptor.reset with kind := kind, stream := 2, outputFormat := f, outputClass := c }
  let b := cls (cls (cls (cls Bank.reset 0 .one 96 3) 1 .four 2 1) 2 .two 96 0) 3 .eight 96 2
  let b := ch (ch (ch b 7 .primary .sr 3) 9 .companion .i32 1) 10 .primary .lr 2
  ch (ch (ch (ch b 11 .primary .sr 2) 14 .primary .i32 1) 15 .primary .lr 0) 16 .primary .i16 0

/-- Table 4-5: the compiled layout of stream 2. -/
theorem test_worked_layout :
    compileStream workedBank 2 =
      ⟨[⟨0, 2, 10, .primary⟩, ⟨2, 1, 11, .primary⟩, ⟨4, 1, 9, .companion⟩, ⟨5, 1, 14, .primary⟩, ⟨8, 1, 7, .primary⟩,
        ⟨9, 2, 15, .primary⟩, ⟨11, 1, 16, .primary⟩], 12⟩ := by decide +kernel

/-- R88, R193: one entry of one word; a first entry index of 96 is refused. -/
theorem test_readLayout :
    ans .readLayout (loaded .reset) 0x0B [0x00000200] = some (.ok, [0x00008201, 0x00010001, 0x00010501]) ∧
    ans .readLayout (loaded .reset) 0x0B [0x00000260] = some (.badIndex, []) := by decide +kernel

theorem witness_ReadLayoutReturnsARun :
    Takes (asked State.reset (ask 0x0B [0x0000075F])) (ask 0x0B [0x0000075F]) [] ∧
    ((0x0000075F : Word).extractLsb' 8 8).toNat = 7 ∧ ((0x0000075F : Word).extractLsb' 0 8).toNat ≤ 95 ∧
    7 < ((0x00000800 : Word).extractLsb' 8 8).toNat ∧ 95 < ((0x00000060 : Word).extractLsb' 0 8).toNat :=
  ⟨witness_takes_reset _ _, by decide⟩

/-- An exception queue of LENGTH records with the given sequence numbers. -/
def queued (seqs : List Seq) : State :=
  { State.reset with exc := { ExceptionUnit.reset with
      queue := seqs.map fun n => { lengthRecord 0 2 5 1 4 with seq := n } } }

/-- R130, R193, R194: the record after 9 is 10; its words are those of a LENGTH record of stream 2. -/
theorem test_fetchExceptions :
    ans .fetchExceptions (queued [9, 10]) 0x0C [0x01000009] =
      some (.ok, [0x00000201, 0x000A5504, 0x00000005, 0x00020000, 0x00010004]) ∧
    ans .fetchExceptions (queued []) 0x0C [0x02000009] = some (.badValue, []) := by decide +kernel
theorem witness_FetchReturnsAPage :
    (queued [9, 10]).exc.queue.map (·.seq) = [9, 10] ∧ (0x01000009 : Word).extractLsb' 24 8 = 1 ∧
    (0x00000009 : Word).extractLsb' 24 8 = 0 ∧ 1 < ((0x02000009 : Word).extractLsb' 24 8).toNat ∧
    (∀ k ∈ (queued [9, 10]).exc.queue, k.seq ≠ 11) ∧ ((queued (List.replicate 9 1)).exc.queue).length = 9 := by decide +kernel
theorem test_ackExceptions :
    ans .ackExceptions (queued [9, 10]) 0x0D [9] = some (.ok, [1]) ∧
    ans .ackExceptions (queued [9, 10]) 0x0D [11] = some (.stale, [2]) := by decide +kernel
theorem test_ackExceptions_empties :
    eff (fun t => (t.exc.queue, t.exc.notice)) .ackExceptions
      { queued [9] with exc := { (queued [9]).exc with notice := .announced, reminder := some 4 } } 0x0D [9] =
      some ([], .quiet) := by decide +kernel

theorem witness_AckRemovesUpTo :
    Takes (asked (queued [9, 10]) (ask 0x0D [9])) (ask 0x0D [9]) [] ∧
    (queued [9, 10]).exc.queue.map (·.seq) = [(9 : Word).extractLsb' 0 16, 10] ∧
    (∀ k ∈ (queued [9, 10]).exc.queue, k.seq ≠ (11 : Word).extractLsb' 0 16) ∧ (ask 0x0D []).operands.length ≠ 1 :=
  ⟨witness_takes _ _ rfl rfl rfl rfl rfl (by decide), by decide⟩

/-- Channel 127 with its OVERFLOW and NULL flags set. -/
def flagged : State := { State.reset with sticky := State.reset.sticky.set 127 ⟨true, false, false, true⟩ }

/-- R176: a run may end at channel 127 and not beyond. -/
theorem test_readSticky :
    ans .readSticky flagged 0x0E [0x00007F01] = some (.ok, [0x00007F01, 0x90000000]) ∧
    ans .readSticky flagged 0x0E [0x00007F02] = some (.badValue, []) := by decide +kernel
theorem test_clearSticky :
    eff (·.sticky.get 127) .clearSticky flagged 0x0F [0x0100007F] = some .clear ∧
    ans .clearSticky flagged 0x0F [0x03000080] = some (.badValue, []) := by decide +kernel

theorem witness_StickyIsReadAndCleared :
    Takes (asked flagged (ask 0x0E [0x00007F01])) (ask 0x0E [0x00007F01]) [] ∧
    127 < ((0x00008001 : Word).extractLsb' 8 8).toNat ∧ 127 + ((0x00007F01 : Word).extractLsb' 0 8).toNat = 128 ∧
    ((0x00007F00 : Word).extractLsb' 0 8).toNat = 0 ∧ (0x0100007F : Word).extractLsb' 24 8 = 1 ∧
    ((0x0100007F : Word).extractLsb' 0 8).toNat = 127 ∧ 127 < ((0x01000080 : Word).extractLsb' 0 8).toNat ∧
    (0x02000080 : Word).extractLsb' 24 8 = 2 ∧ (0x03000080 : Word).extractLsb' 24 8 ≠ 1 ∧
    (0x03000080 : Word).extractLsb' 24 8 ≠ 2 :=
  ⟨witness_takes _ _ rfl rfl rfl rfl rfl (by decide), by decide⟩

/-- A held frame. -/
def holding : State := { State.reset with hold := .held small none }

/-- R118, R119, R193. -/
theorem test_releaseHoldForward :
    ans .releaseHoldForward holding 0x10 [1] = some (.ok, [0x07000005, 0x00000002]) ∧
    eff (·.outQueue) .releaseHoldForward holding 0x10 [1] = some [.conditioned { small with released := true }] := by
  decide +kernel
theorem test_releaseHoldDiscard :
    eff (fun t => (t.hold, t.outQueue, t.holdCounters.discarded)) .releaseHoldDiscard holding 0x10 [2] = some (.empty, [], 1) ∧
    ans .releaseHoldDiscard State.reset 0x10 [2] = some (.notHeld, [0]) := by decide +kernel
theorem witness_ReleaseHoldActs :
    holding.hold = .held small none ∧ holding.outQueue.length + holding.outReserved < 4 ∧
    4 ≤ ({ holding with outQueue := List.replicate 4 (.passed ⟨dataWords⟩) } : State).outQueue.length ∧
    State.reset.hold = .empty ∧ (3 : Word).extractLsb' 0 8 ≠ 1 ∧ (3 : Word).extractLsb' 0 8 ≠ 2 := by decide +kernel

theorem test_readCounters :
    ans .readCounters { State.reset with holdCounters := ⟨1, 2, 3, 4⟩ } 0x11 [3] = some (.ok, [3, 1, 2, 3, 4]) ∧
    ans .readCounters State.reset 0x11 [5] = some (.badValue, []) := by decide +kernel
/-- R184. -/
theorem test_satInc : satInc 0xFFFFFFFE#32 = 0xFFFFFFFF#32 ∧ satInc 0xFFFFFFFF#32 = 0xFFFFFFFF#32 := by decide
/-- R128, R186: the lost-record counter is read and not cleared. -/
theorem test_clearCounters :
    let s : State := { State.reset with replays := 2, exc := { ExceptionUnit.reset with lost := 6 } }
    ans .clearCounters s 0x12 [4] = some (.ok, [4, 0, 2, 6]) ∧
    eff (fun t => (t.replays, t.exc.lost)) .clearCounters s 0x12 [4] = some (0, 6) := by decide +kernel
theorem test_setParameter :
    eff (·.params.holdTimeout) .setParameter State.reset 0x13 [3, 1000] = some 1000 ∧
    ans .setParameter State.reset 0x13 [3, 1001] = some (.badValue, []) := by decide +kernel
theorem test_readParameter :
    ans .readParameter State.reset 0x14 [2] = some (.ok, [2, 8]) ∧
    ans .readParameter State.reset 0x14 [5] = some (.badIndex, []) := by decide +kernel

theorem witness_CountersAreReadAndCleared :
    Takes (asked State.reset (ask 0x11 [4])) (ask 0x11 [4]) [] ∧ Takes (asked State.reset (ask 0x12 [5])) (ask 0x12 [5]) [] ∧
    (4 : Word).extractLsb' 0 8 = 4 ∧ (1 : Word).extractLsb' 0 8 = 1 ∧ 4 < ((5 : Word).extractLsb' 0 8).toNat ∧
    ((0 : Word).extractLsb' 0 8).toNat = 0 :=
  ⟨witness_takes_reset _ _, witness_takes_reset _ _, by decide⟩

theorem witness_ParametersAreSetAndRead :
    Takes (asked State.reset (ask 0x13 [4, 1])) (ask 0x13 [4, 1]) [] ∧ Takes (asked State.reset (ask 0x14 [1])) (ask 0x14 [1]) [] ∧
    (4 : Word).extractLsb' 0 8 = 4 ∧ (1 : Word) = 1 ∧ 1 < (2 : Word).toNat ∧ 4 < ((5 : Word).extractLsb' 0 8).toNat ∧
    (255 : Word).toNat ≤ 255 ∧ 255 < (256 : Word).toNat ∧ (1000 : Word).toNat ≤ 1000 ∧ 1000 < (1001 : Word).toNat :=
  ⟨witness_takes_reset _ _, witness_takes_reset _ _, by decide⟩

/-- R142, R178: the conversion is aborted, the hold dropped and counted, the grants restarted. -/
theorem test_resetPipeline :
    eff (fun t => (t.engine, t.ingress, t.outstanding)) .resetPipeline
      { loaded .reset with engine := .converting (converting [] true) } 0x15 [1] = some (.idle, [], 8) ∧
    eff (fun t => (t.hold, t.holdCounters.discarded)) .resetPipeline holding 0x15 [1] = some (.empty, 1) := by decide +kernel
theorem test_resetExceptions :
    eff (fun t => (t.exc.queue, t.sticky.get 127)) .resetExceptions { flagged with exc := (queued [9]).exc } 0x15 [2] =
      some ([], .clear) := by decide +kernel
theorem test_resetAll :
    eff (fun t => ((t.active.stream 2).enabled, t.generation)) .resetAll { loaded .reset with generation := 4 } 0x15 [3] =
      some (false, 0) ∧
    ans .resetAll State.reset 0x15 [3] = some (.ok, [3]) := by decide +kernel
theorem test_deviceReset :
    after (fun t => (t.ingress, t.aRx.state)) (exec .deviceReset (loaded .reset)) = some ([], .down) := by decide +kernel

/-- A RESET PIPELINE that finds a commit in progress and a held frame. -/
theorem witness_ResetsAct :
    let rq : Request := ⟨1, 8, 0x15, [1]⟩
    let s := asked { committing .compiling .reset with hold := .held small none } rq
    Takes s rq [] ∧ DeferredAgree s ∧ (1 : Word).extractLsb' 0 8 = 1 ∧ (2 : Word).extractLsb' 0 8 = 2 ∧
    (3 : Word).extractLsb' 0 8 = 3 ∧ (4 : Word).extractLsb' 0 8 ≠ 3 ∧
    after (fun t => t.responses.length) (exec (.resetPipeline rq) s) = some 2 :=
  ⟨⟨⟨⟨rfl, by decide, rfl⟩, fun d h => by cases h; decide, fun _ h => (nomatch h), fun _ h => (nomatch h),
    fun _ h => (nomatch h)⟩,
      fun h => absurd h (by decide)⟩, ⟨by decide, by decide, by decide, by decide⟩, by decide +kernel⟩

theorem witness_OperandCountIsTested :
    ans .readChannel State.reset 0x04 [] = some (.badValue, []) ∧
    ans .readLayout State.reset 0x0B [0x0000075F, 0] = some (.badValue, []) ∧
    ans .setParameter State.reset 0x13 [4] = some (.badValue, []) ∧
    ans .resetAll State.reset 0x15 [] = some (.badValue, []) := by decide +kernel

/-! ## Arithmetic: the worked conversions of section 1.9 -/

/-- The stored words and the class and true exponent of the condition of a channel's slot on one raw word. -/
def settled (d : Descriptor) (raw : Word) : List Word × Option (ConditionClass × Option (BitVec 16) × Bool) :=
  let r := settlePrimary [raw] 5 { d with kind := .primary }
  (r.stored, r.condition.map fun c => (c.cls, c.exponent, c.wrappedToNull))

/-- 1.9.1: I16 to SR with gain -512.0. -/
def counts (offset : DoubleWord) (r : Rounding) : Descriptor :=
  { Descriptor.reset with
    inputFormat := .i16, outputFormat := .sr, gain := 0xC040000000000000#64, offset := offset, rounding := r }

/-- 1.9.1: offset 3.0, and the tie of offset 2.0 under both rounding modes. -/
theorem test_1_9_1 :
    settled (counts 0x4004000000000000#64 .round) 0x12348000 = ([0x45C00001], none) ∧
    settled (counts 0x4000000000000000#64 .round) 0x12348000 = ([0x45C00001], none) := by decide +kernel
theorem test_1_9_1_chop : settled (counts 0x4000000000000000#64 .chop) 0x12348000 = ([0x45C00000], none) := by decide +kernel

theorem test_1_9_2 :
    let d := { Descriptor.reset with
      inputFormat := .ob16, outputFormat := .i32, gain := 0x3FC0000000000000#64, offset := 0xBFE8000000000000#64 }
    settled d 0x00001234 = ([0xFFFFFF25], none) ∧ settled { d with outputFormat := .ob16 } 0x00001234 = ([0x00007F25], none) := by
  decide +kernel

theorem test_1_9_3 : settled wrapping 0x00000060 = ([0x00E00000], some (.overflow, some 260, false)) := by decide +kernel

theorem test_1_9_4 :
    let d := { Descriptor.reset with
      inputFormat := .sr, outputFormat := .sr, gain := 0x3E40000000000000#64, underflow := .wrap }
    settled d 0x8DD00000 = ([0x80100000], some (.underflow, some 0xFF01, true)) := by decide +kernel

/-- A split channel 5 whose companion is channel 6. -/
def splitBank (gain : DoubleWord) (f : Format) (r : Rounding) : Bank :=
  ((oneChannel { Descriptor.reset with mode := .split, companion := some 6, outputFormat := .sr, gain := gain, rounding := r }).setChannel
    6 { Descriptor.reset with kind := .companion, stream := 2, outputFormat := f })

/-- 1.9.5 and 1.9.6: the fraction and the whole part of a split channel. -/
theorem test_1_9_5 :
    let slots (w : Word) :=
      [entry5, ⟨1, 1, 6, .companion⟩].map fun e => settleSlot (splitBank 0x3F88000000000000#64 .i16 .round) [w] e
    slots 0x0000F000 = [⟨[0x3FA00000], none⟩, ⟨[3], none⟩] ∧
    slots 0xFFFF1000 = [⟨[0xBFA00000], none⟩, ⟨[0xFFFFFFFD], none⟩] := by decide +kernel
theorem test_1_9_6 :
    let slots (r : Rounding) :=
      [entry5, ⟨1, 1, 6, .companion⟩].map fun e => settleSlot (splitBank 0x3F08000000000000#64 .i32 r) [0xC0000001] e
    slots .round = [⟨[0xBFC00000], none⟩, ⟨[0], none⟩] ∧
    slots .chop = [⟨[0xBFBFFFFF], none⟩, ⟨[0], none⟩] := by decide +kernel

/-- For `ChopTruncates` and `RoundTiesAway`: a y with its exponent, and a tie in SR. -/
theorem witness_rounding :
    2 ^ 1 ≤ (-3 : Int).natAbs ∧ (-3 : Int).natAbs < 2 ^ (1 + 1) ∧ 2 ^ 24 ≤ (16777218 : Int).natAbs ∧
    (16777218 : Int).natAbs < 2 ^ (24 + 1) ∧ (16777218 : Int).natAbs * 2 ^ 23 = (2 * 2 ^ 22 + 1) * 2 ^ 24 := by decide +kernel

/-- R14: the biased exponents 1 and 511 are in range, 0 and 512 are not. -/
theorem witness_RealSlotIsSettled :
    let b (e : Nat) : Int := (roundReal .sr .round (2 ^ (3939 + e))).biased .sr
    b 1 = 1 ∧ b 511 = 511 ∧ b 0 = 0 ∧ b 512 = 512 := by decide +kernel

theorem witness_IntegersTruncate :
    channelResult [7] { Descriptor.reset with kind := .primary } = (some [7], some (7 * 2 ^ 4194)) ∧
    (2 ^ 4194 - 1 : Int).natAbs < 2 ^ 4194 := by decide +kernel

theorem test_integer_limits :
    (settleInteger .saturate .i16 false [] 32767).condition = none ∧
    (settleInteger .saturate .ob16 false [] 32768).stored = [0x0000FFFF] ∧
    (settleInteger .zero .ob16 false [] (-32769)).stored = [0x00008000] := by decide +kernel

theorem witness_TrueExponentIsExact :
    decodeSample .i16 none [0x12348000] = some (-32768 * 2 ^ 2097) ∧
    transform (-32768 * 2 ^ 2097) (lrValue 0x3FF8000000000000#64) (lrValue 0) ≠ 0 := by decide +kernel

/-- The number 1 in each input format, under gain 1.0 and offset 0.0 (R1, R2, R3, R190). -/
theorem witness_samples :
    let reads (f : Format) (payload : List Word) : Bool :=
      decide (channelResult payload { Descriptor.reset with inputFormat := f } = (some payload, some (2 ^ 4194)))
    reads .i16 [0x12340001] = true ∧ reads .ob16 [0x12348001] = true ∧ reads .i32 [1] = true ∧ reads .sr [0x3FC00000] = true ∧
    reads .lr [0x3FF80000, 0] = true ∧ Descriptor.reset.gain.extractLsb' 51 12 ≠ 0 ∧
    Descriptor.reset.offset.getLsbD 63 = false := by decide +kernel

theorem witness_SplitPartsAddUp :
    let b := splitBank 0x3F88000000000000#64 .i16 .round
    (b.channel 5).kind = .primary ∧ (b.channel 5).mode = .split ∧ (b.channel 5).outputFormat.split = .real .sr ∧
    channelResult [0x0000F000] (b.channel 5) = (some [0x0000F000], some (15 * 2 ^ 4192)) ∧
    (15 * 2 ^ 4192 : Int).natAbs < 2 ^ (23 + 4194) ∧ 2 ^ (23 + 4194) ≤ (2 ^ (23 + 4194) : Int).natAbs ∧
    (b.channel 5).companion = some 6 ∧ (b.channel 6).outputFormat.split = .int .i16 ∧
    (∀ j : Fin 128, j < 5 → claims (b.channel j) 6 = false) := by decide +kernel

/-- Null inputs of each kind, the absent sample at the payload's end. -/
theorem witness_NullInputsAreSettled :
    let null (f : Format) (code : Option Word) (payload : List Word) : Option (Bool × List Word) :=
      (settlePrimary payload 5 { Descriptor.reset with kind := .primary, inputFormat := f, inputNull := code }).condition.map
        fun c => (c.absent, c.input)
    null .i32 none [] = some (true, []) ∧ null .lr none [0x80000000] = some (true, []) ∧
    null .sr none [0x80000001] = some (false, [0x80000001]) ∧ null .lr none [0x80000000, 1] = some (false, [0x80000000, 1]) ∧
    null .i16 (some 0xFFFF8000) [0x12348000] = some (false, [0x12348000]) ∧
    null .ob16 (some 0x0000FFFF) [0x1234FFFF] = some (false, [0x1234FFFF]) ∧ null .i32 (some 9) [9] = some (false, [9]) ∧
    null .sr none [0] = none := by decide +kernel

theorem witness_nullCode :
    nullCodeFits .i16 0xFFFF8000 = true ∧ nullCodeFits .ob16 0x0000FFFF = true ∧ nullCodeFits .i32 9 = true ∧
    nullCodeFits .i16 0x00008000 = false := by decide

/-! ## Images, frames, validation, invariants -/

theorem witness_RecordImagesRoundTrip :
    descriptorSound Descriptor.reset = true ∧ Descriptor.reset.companion.isSome = false ∧ Descriptor.reset.mode = .plain ∧
    (decodeDescriptor image).isSome = true ∧ (decodeStream [0x40050640]).isSome = true ∧ (decodeClass [0x08006007]).isSome = true := by
  decide +kernel

/-- Table 11-2: EXCEPTION set, node 1, output stream 7, no payload. -/
theorem test_conditioned_words : small.words = [0x1C010700, 0x00030005, 0x00000000, 0x00020000] := by decide +kernel

theorem witness_FramesAreLaidOut :
    small.payload.length ≤ 64 ∧ (Response.mk 1 7 1 .ok []).data.length ≤ 96 ∧
    (frameRecord .holdBusy 0 2 5).inputValue.length ≤ 2 ∧ (frameRecord .holdBusy 0 2 5).exponent = none ∧
    (queued [9, 10]).exc.queue.length ≤ 32 := by decide

theorem witness_LayoutIsPlaced :
    validate (oneChannel .reset) = none ∧ ((oneChannel .reset).stream 2).enabled = true ∧
    1 < (compileStream workedBank 2).entries.length := by decide +kernel

/-- R98: of three enabled records with one input stream id the second is reported. -/
theorem witness_DuplicateStreamIsFound :
    let b := ((Bank.reset.setStream 1 ⟨true, 9, 1, 1⟩).setStream 4 ⟨true, 9, 4, 1⟩).setStream 6 ⟨true, 9, 6, 1⟩
    (b.stream 4).enabled = true ∧ (b.stream 1).enabled = true ∧ (b.stream 1).inputId = (b.stream 4).inputId ∧
    validate b = some ⟨.duplicateStream, 4, none⟩ := by decide +kernel

/-- The classes of a bank with permuted ranks, in the order of R79. -/
theorem witness_classes_in_order :
    let classes : List (Fin 8) := [2, 1, 3, 0, 4, 5, 6, 7]
    classes.Nodup ∧ (∀ c, c ∈ classes) ∧
    classes.Pairwise (fun c later => (workedBank.classRecord c).rank < (workedBank.classRecord later).rank ∨
      (workedBank.classRecord c).rank = (workedBank.classRecord later).rank ∧ c < later) := by decide +kernel

/-- The bank of section 5.10 with its faults. -/
def faultyBank : Bank :=
  let stream (b : Bank) (i : Fin 8) (id : BitVec 8) : Bank := b.setStream i ⟨true, id, 0, 8⟩
  let b := stream (stream (stream (stream Bank.reset 2 2) 3 9) 4 4) 6 9
  let member : Descriptor := { Descriptor.reset with kind := .primary, stream := 4, outputClass := 5 }
  let b := (b.setClass 5 ⟨.one, 2, 5⟩).setChannel 12 { member with outputFormat := .i16, null := .divert }
  let b := (b.setChannel 13 { member with position := 1 }).setChannel 14 { member with position := 2 }
  let split : Descriptor :=
    { Descriptor.reset with kind := .primary, stream := 2, mode := .split, companion := some 51, outputFormat := .sr }
  (b.setChannel 50 split).setChannel 70 { Descriptor.reset with kind := .companion, stream := 2 }

/-- Table 5-2: the answers of successive commits as the faults are corrected. -/
theorem test_table_5_2 :
    let b2 := faultyBank.setStream 6 ⟨true, 10, 0, 8⟩
    let b3 := b2.setChannel 12 { b2.channel 12 with outputNull := some 7 }
    let b4 := b3.setChannel 51 { Descriptor.reset with kind := .companion, stream := 2 }
    let b5 := b4.setChannel 70 .reset
    let b6 := b5.setClass 5 ⟨.one, 3, 5⟩
    [faultyBank, b2, b3, b4, b5, b6].map validate =
      [some ⟨.duplicateStream, 6, none⟩, some ⟨.nullCodeRequired, 12, some 4⟩, some ⟨.companionMissing, 50, some 2⟩,
       some ⟨.companionOrphan, 70, some 2⟩, some ⟨.classFull, 5, some 4⟩, none] := by decide +kernel

/-- A part with both lanes UP and a START on A-receive to come. -/
def running : State := { up with pending := [.startSymbol .a] }

theorem witness_BoundsAreKept : WithinCapacity running ∧ CreditsHonest running ∧ after (·.pending) (step running) = some [] := by
  refine ⟨⟨?_, ?_, ?_, ?_, ?_, ?_, ?_, ?_, ?_, ?_, ?_⟩, ⟨?_, ?_, ?_, ?_⟩, ?_⟩ <;> decide

theorem witness_NoticesAndCacheAreKept :
    TimersInRange running ∧ NoticeConsistent running.exc ∧ RecordsConsecutive running.exc ∧ CacheSound running := by
  refine ⟨⟨?_, ?_, ?_, fun _ h => (nomatch h), fun _ h => (nomatch h), fun _ _ h => (nomatch h)⟩, ⟨?_, ?_, ?_, fun h => absurd rfl h⟩,
    ⟨fun _ h => absurd h (Nat.not_lt_zero _), fun _ h => (nomatch h)⟩,
    ⟨List.nodup_nil, fun _ h => (nomatch h), fun _ h => (nomatch h), fun _ h => (nomatch h), fun _ h => (nomatch h)⟩⟩ <;> decide

theorem witness_CommitAndEngineAgree :
    DeferredAgree running ∧ AnswersBounded running ∧ EngineConsistent running ∧ TablesCompiled running := by
  refine ⟨⟨?_, ?_, ?_, ?_⟩, ⟨?_, ?_⟩, ⟨fun _ h => (nomatch h), fun _ h => (nomatch h), fun _ h => (nomatch h)⟩,
    ⟨?_, ?_, fun h => (nomatch h), fun h => (nomatch h)⟩⟩ <;> decide +kernel

theorem witness_OnlyNamedEventsChange :
    after (·.generation) (exec .swap (committing .swapPending .reset)) = some 1 ∧
    after (·.generation) (exec .deviceReset { up with generation := 4 }) = some 0 ∧ up.pending = [] := by decide +kernel

end Sys2Proof.Tests.Slice0
end

section
/-! Proofs about the conversion arithmetic: the cut significand, the rounded result, the settled SR value and the whole part
(R12 to R15), and the obligations on CHOP, ROUND and the integer outputs. -/

namespace Sys2Proof.Machine

/-! ## The cut significand: the largest whole number under a bound -/

/-- The scale of y as the number that the statements write. -/
theorem resultScale_eq : resultScale = 4194 := rfl

/-- CHOP cuts to the largest whole significand not above m (R12). -/
theorem le_cutSignificand_chop {f : RealFormat} {magnitude k q : Nat} :
    q ≤ cutSignificand f .chop magnitude k ↔ q * 2 ^ k ≤ magnitude * 2 ^ f.fractionBits :=
  Nat.le_div_iff_mul_le (Nat.two_pow_pos k)

/-- ROUND cuts to the largest whole significand not above m and half a unit (R13). -/
theorem le_cutSignificand_round {f : RealFormat} {magnitude k q : Nat} :
    q ≤ cutSignificand f .round magnitude k ↔ q * 2 ^ (k + 1) ≤ magnitude * 2 ^ f.precision + 2 ^ k :=
  Nat.le_div_iff_mul_le (Nat.two_pow_pos (k + 1))

theorem le_cutSignificand_chop_of_normal {f : RealFormat} {magnitude k : Nat} (h : 2 ^ k ≤ magnitude) :
    2 ^ f.fractionBits ≤ cutSignificand f .chop magnitude k := by
  rw [le_cutSignificand_chop, Nat.mul_comm]
  exact Nat.mul_le_mul_right _ h

/-- CHOP never carries out. -/
theorem cutSignificand_chop_lt {f : RealFormat} {magnitude k : Nat} (h : magnitude < 2 ^ (k + 1)) :
    cutSignificand f .chop magnitude k < 2 ^ f.precision := by
  rw [← Nat.not_le, le_cutSignificand_chop, Nat.not_le]
  calc magnitude * 2 ^ f.fractionBits < 2 ^ (k + 1) * 2 ^ f.fractionBits := Nat.mul_lt_mul_of_pos_right h (Nat.two_pow_pos _)
    _ = 2 ^ f.precision * 2 ^ k := by rw [RealFormat.precision]; ring

/-- ROUND reaches the significand 2 at most. -/
theorem cutSignificand_round_le {f : RealFormat} {magnitude k : Nat} (h : magnitude < 2 ^ (k + 1)) :
    cutSignificand f .round magnitude k ≤ 2 ^ f.precision := by
  rw [← Nat.lt_add_one_iff, ← Nat.not_le, le_cutSignificand_round, Nat.not_le]
  calc magnitude * 2 ^ f.precision + 2 ^ k < 2 ^ (k + 1) * 2 ^ f.precision + 2 ^ (k + 1) :=
        Nat.add_lt_add (Nat.mul_lt_mul_of_pos_right h (Nat.two_pow_pos _)) (Nat.pow_lt_pow_succ Nat.one_lt_two)
    _ = (2 ^ f.precision + 1) * 2 ^ (k + 1) := by ring

/-- ROUND carries out exactly from the significand 2 - 2^-p on. -/
theorem cutSignificand_round_carries_iff {f : RealFormat} {magnitude k : Nat} (h : magnitude < 2 ^ (k + 1)) :
    cutSignificand f .round magnitude k = 2 ^ f.precision ↔ (2 ^ (f.precision + 1) - 1) * 2 ^ k ≤ magnitude * 2 ^ f.precision := by
  have hsplit : 2 ^ f.precision * 2 ^ (k + 1) = (2 ^ (f.precision + 1) - 1) * 2 ^ k + 2 ^ k := by
    rw [← Nat.succ_mul, Nat.succ_eq_add_one, Nat.sub_add_cancel Nat.one_le_two_pow]; ring
  rw [← (cutSignificand_round_le h).ge_iff_eq, le_cutSignificand_round, hsplit, Nat.add_le_add_iff_right]

/-- A magnitude halfway between the significands n and n + 1 goes to n + 1. -/
theorem cutSignificand_round_tie {f : RealFormat} {magnitude k n : Nat}
    (h : magnitude * 2 ^ f.precision = (2 * n + 1) * 2 ^ k) : cutSignificand f .round magnitude k = n + 1 := by
  have hsum : magnitude * 2 ^ f.precision + 2 ^ k = (n + 1) * 2 ^ (k + 1) := by rw [h]; ring
  exact Nat.div_eq_of_eq_mul_left (Nat.two_pow_pos _) hsum

/-! ## The rounded result -/

theorem roundReal_sign (f : RealFormat) (mode : Rounding) (y : Int) : (roundReal f mode y).sign = decide (y < 0) := by
  simp only [roundReal, apply_ite RoundedReal.sign, ite_self]

section
variable {f : RealFormat} {mode : Rounding} {y : Int} {k : Nat}

theorem roundReal_of_carry (h1 : 2 ^ k ≤ y.natAbs) (h2 : y.natAbs < 2 ^ (k + 1))
    (hq : cutSignificand f mode y.natAbs k = 2 ^ f.precision) :
    roundReal f mode y = ⟨decide (y < 0), 2 ^ f.fractionBits, (k : Int) - 4194 + 1⟩ := by
  rw [roundReal_eq h1 h2]; exact if_pos hq

theorem roundReal_of_no_carry (h1 : 2 ^ k ≤ y.natAbs) (h2 : y.natAbs < 2 ^ (k + 1))
    (hq : cutSignificand f mode y.natAbs k ≠ 2 ^ f.precision) :
    roundReal f mode y = ⟨decide (y < 0), cutSignificand f mode y.natAbs k, (k : Int) - 4194⟩ := by
  rw [roundReal_eq h1 h2]; exact if_neg hq

/-- Carrying out keeps the magnitude m_r * 2^e_r that was cut. -/
theorem roundReal_magnitude (h1 : 2 ^ k ≤ y.natAbs) (h2 : y.natAbs < 2 ^ (k + 1)) :
    (roundReal f mode y).significand * 2 ^ ((roundReal f mode y).exponent + 4194 - (k : Int)).toNat =
      cutSignificand f mode y.natAbs k := by
  by_cases hq : cutSignificand f mode y.natAbs k = 2 ^ f.precision
  · have hone : ((k : Int) - 4194 + 1 + 4194 - k).toNat = 1 := by omega
    rw [roundReal_of_carry h1 h2 hq, hone, hq, RealFormat.precision, Nat.pow_succ]; rfl
  · have hzero : ((k : Int) - 4194 + 4194 - k).toNat = 0 := by omega
    rw [roundReal_of_no_carry h1 h2 hq, hzero, Nat.pow_zero, Nat.mul_one]

end

/-! ## The SR word of a result in range -/

/-- The fields of an SR word lie where R190 puts them. -/
theorem srFields_append (s : BitVec 1) (e : BitVec 9) (m : BitVec 22) :
    srFields (s ++ e ++ m) = ⟨s.getLsbD 0, e.toNat, m.toNat⟩ := by
  have hsign : (s ++ e ++ m).getLsbD 31 = s.getLsbD 0 := BitVec.getLsbD_append.trans BitVec.getLsbD_append
  have hexponent : (s ++ e ++ m).extractLsb' 22 9 = e :=
    (BitVec.extractLsb'_append_eq_of_le (by decide)).trans BitVec.extractLsb'_append_eq_right
  have hfraction : (s ++ e ++ m).extractLsb' 0 22 = m := BitVec.extractLsb'_append_eq_right
  rw [srFields, RealFields.mk.injEq]
  exact ⟨hsign, congrArg BitVec.toNat hexponent, congrArg BitVec.toNat hfraction⟩

/-- The SR word of given fields reads back as those fields. -/
theorem words_sr_reads (sign : Bool) {exponent fraction : Nat} (he : exponent < 2 ^ 9) (hf : fraction < 2 ^ 22) :
    ∃ w, RealFormat.sr.words sign exponent fraction = [w] ∧ srFields w = ⟨sign, exponent, fraction⟩ := by
  have hsign : (flagBit sign).getLsbD 0 = sign := by simp [flagBit]
  refine ⟨_, rfl, ?_⟩
  rw [srFields_append, hsign, bitsOf, bitsOf, BitVec.toNat_ofNat, BitVec.toNat_ofNat, Nat.mod_eq_of_lt he, Nat.mod_eq_of_lt hf]

/-- A result in range is stored as it is, with no condition (R14). -/
theorem settleReal_of_inRange {d : Descriptor} {f : RealFormat} {input : List Word} {y : Int} {r : RoundedReal} (hy : y ≠ 0)
    (hr : roundReal f d.rounding y = r) (hlow : 1 ≤ r.biased f) (hhigh : r.biased f ≤ f.maxExponent) :
    settleReal d f input y = ⟨r.inRangeWords f, none⟩ := by
  simp only [settleReal, if_neg hy, hr, if_neg hhigh.not_gt, if_neg hlow.not_gt]

/-- An SR result in range is stored in one word with the sign, B and the fraction of the rounded result (R14). -/
theorem settleReal_sr_of_inRange {d : Descriptor} {y : Int} {r : RoundedReal} (input : List Word) (hy : y ≠ 0)
    (hr : roundReal .sr d.rounding y = r) (hlow : 1 ≤ r.biased .sr) (hhigh : r.biased .sr ≤ 511)
    (hf : r.fraction .sr < 2 ^ 22) :
    ∃ w, settleReal d .sr input y = ⟨[w], none⟩ ∧ srFields w = ⟨r.sign, (r.biased .sr).toNat, r.fraction .sr⟩ := by
  obtain ⟨w, hw, hfields⟩ := words_sr_reads r.sign (exponent := (r.biased .sr).toNat) (by omega) hf
  exact ⟨w, by rw [settleReal_of_inRange hy hr hlow hhigh, RoundedReal.inRangeWords, hw], hfields⟩

/-! ## The obligations on rounding -/

/-! The three results that the statements name (R12, R13). -/

theorem roundReal_sr_chop_16777219 : roundReal .sr .chop (16777219 * 2 ^ 4194) = ⟨false, 2 ^ 22, 24⟩ := by decide +kernel
theorem roundReal_sr_round_16777218 : roundReal .sr .round (16777218 * 2 ^ 4194) = ⟨false, 2 ^ 22 + 1, 24⟩ := by decide +kernel
theorem roundReal_sr_round_neg_16777218 : roundReal .sr .round (-16777218 * 2 ^ 4194) = ⟨true, 2 ^ 22 + 1, 24⟩ := by
  decide +kernel

/-- What is stored for a result of exponent 24 in SR, by its value. -/
theorem settleReal_sr_exponent_24 {d : Descriptor} {y : Int} {sign : Bool} {fraction : Nat} (input : List Word) (hy : y ≠ 0)
    (hr : roundReal .sr d.rounding y = ⟨sign, 2 ^ 22 + fraction, 24⟩) (hf : fraction < 2 ^ 22) :
    ∃ w, settleReal d .sr input y = ⟨[w], none⟩ ∧ (srFields w).value .sr = (⟨sign, 279, fraction⟩ : RealFields).value .sr := by
  have hbiased : (⟨sign, 2 ^ 22 + fraction, 24⟩ : RoundedReal).biased .sr = 279 := rfl
  have hfraction : (⟨sign, 2 ^ 22 + fraction, 24⟩ : RoundedReal).fraction .sr = fraction := Nat.add_sub_cancel_left ..
  obtain ⟨w, hw, hfields⟩ := settleReal_sr_of_inRange input hy hr (by omega) (by omega) (hfraction.symm ▸ hf)
  exact ⟨w, hw, by rw [hfields, hfraction]; rfl⟩

/-- Settles O44: the cut significand is a floor, which a normal y keeps below the carry. -/
theorem chopTruncates : Obligations.ChopTruncates := by
  refine ⟨fun f y k h1 h2 => ?_, roundReal_sr_chop_16777219, fun d input hd => ?_⟩
  · have hlt := cutSignificand_chop_lt (f := f) h2
    rw [roundReal_of_no_carry h1 h2 hlt.ne]
    exact ⟨rfl, rfl, le_cutSignificand_chop.1 le_rfl, Nat.not_le.1 (mt le_cutSignificand_chop.2 (Nat.not_succ_le_self _)),
      le_cutSignificand_chop_of_normal h1, Nat.le_sub_one_of_lt hlt⟩
  · obtain ⟨w, hw, hvalue⟩ := settleReal_sr_exponent_24 (fraction := 0) input (by decide +kernel)
      (hd ▸ roundReal_sr_chop_16777219) (by decide)
    exact ⟨w, hw, hvalue.trans (by decide +kernel)⟩

/-- Settles O45: the cut after half a unit is a floor, at most 2^p, and carrying out keeps the magnitude. -/
theorem roundTiesAway : Obligations.RoundTiesAway := by
  refine ⟨fun f y k h1 h2 => ⟨roundReal_sign f _ y, ?_, fun n hn => ?_⟩, fun d input hd => ⟨?_, ?_⟩⟩
  · refine ⟨cutSignificand f .round y.natAbs k, le_cutSignificand_round.1 le_rfl,
      Nat.not_le.1 (mt le_cutSignificand_round.2 (Nat.not_succ_le_self _)), cutSignificand_round_carries_iff h2,
      fun hq => ?_, fun hq => ?_⟩
    · rw [roundReal_of_carry h1 h2 hq]; exact ⟨rfl, rfl⟩
    · rw [roundReal_of_no_carry h1 h2 hq]; exact ⟨rfl, rfl⟩
  · exact (roundReal_magnitude h1 h2).trans (cutSignificand_round_tie hn)
  · obtain ⟨w, hw, hvalue⟩ := settleReal_sr_exponent_24 (fraction := 1) input (by decide +kernel)
      (hd ▸ roundReal_sr_round_16777218) (by decide)
    exact ⟨w, hw, hvalue.trans (by decide +kernel)⟩
  · obtain ⟨w, hw, hvalue⟩ := settleReal_sr_exponent_24 (fraction := 1) input (by decide +kernel)
      (hd ▸ roundReal_sr_round_neg_16777218) (by decide)
    exact ⟨w, hw, hvalue.trans (by decide +kernel)⟩

/-! ## The whole part -/

theorem wholePart_neg (y : Int) : wholePart (-y) = -wholePart y := Int.neg_tdiv ..

theorem wholePart_nonpos {y : Int} (h : y ≤ 0) : wholePart y ≤ 0 := by
  have := wholePart_nonneg (Int.neg_nonneg_of_nonpos h)
  rw [wholePart_neg] at this
  omega

/-- N of a y between two neighbouring whole numbers is the one nearer to 0. -/
theorem wholePart_eq_of_bounds {y n : Int} (hn : 0 ≤ n) (h1 : n * 2 ^ resultScale ≤ y) (h2 : y < (n + 1) * 2 ^ resultScale) :
    wholePart y = n := by
  have hunit : (0 : Int) < 2 ^ resultScale := Int.pow_pos (by decide)
  rw [wholePart, Int.tdiv_eq_ediv_of_nonneg (le_trans (Int.mul_nonneg hn hunit.le) h1)]
  exact le_antisymm (Int.lt_add_one_iff.1 ((Int.ediv_lt_iff_lt_mul hunit).2 h2)) ((Int.le_ediv_iff_mul_le hunit).2 h1)

/-- N is the whole number of largest magnitude not above |y|. -/
theorem wholePart_natAbs_bounds (y : Int) :
    (wholePart y).natAbs * 2 ^ resultScale ≤ y.natAbs ∧ y.natAbs < ((wholePart y).natAbs + 1) * 2 ^ resultScale := by
  rw [wholePart_natAbs]
  exact ⟨Nat.div_mul_le_self .., Nat.lt_mul_of_div_lt (Nat.lt_succ_self _) (Nat.two_pow_pos _)⟩

theorem wholePart_eq_zero {y : Int} (h : y.natAbs < 2 ^ resultScale) : wholePart y = 0 := by
  rw [← Int.natAbs_eq_zero, wholePart_natAbs, Nat.div_eq_of_lt h]

/-- A PLAIN channel with an integer output settles N under its range policy (R10, R15, R16). -/
theorem settlePrimary_plain_int {d : Descriptor} {f : IntFormat} {payload raw : List Word} {ch : Fin 128} {y : Int}
    (hmode : d.mode = .plain) (hformat : d.outputFormat.split = .int f) (hresult : channelResult payload d = (some raw, some y)) :
    settlePrimary payload ch d = settleInteger d.range f false raw (wholePart y) := by
  simp only [settlePrimary, hresult, hmode, hformat, Option.getD_some]

/-- Settles O47: N is the truncated quotient, bounded by its magnitude and its sign. -/
theorem integersTruncate : Obligations.IntegersTruncate := by
  unfold Obligations.IntegersTruncate
  rw [← resultScale_eq]
  refine ⟨fun _ _ _ _ _ _ => settlePrimary_plain_int, fun y => ?_, by decide +kernel⟩
  obtain ⟨hle, hlt⟩ := wholePart_natAbs_bounds y
  refine ⟨hle, hlt, fun h => Int.not_le.1 (mt wholePart_nonpos h.not_ge), fun h => Int.not_le.1 (mt wholePart_nonneg h.not_ge),
    wholePart_eq_zero, wholePart_eq_of_bounds (by decide), fun h1 h2 => ?_⟩
  have hneg : wholePart (-y) = 7 := wholePart_eq_of_bounds (by decide) (by linarith) (by linarith)
  rw [wholePart_neg] at hneg
  omega

end Sys2Proof.Machine
end

section
/-! Proof about COPY_ACTIVE (R92, R96, R168): its own tests, and the banks after a swap (R107). -/

namespace Sys2Proof.Machine

/-! ## The tests and the effect of COPY_ACTIVE -/

theorem unlessCommit_idle {s : State} (h : s.phase = .idle) (run : State × Option Reply) : unlessCommit s run = run := if_pos h

theorem unlessCommit_busy {s : State} (h : s.phase ≠ .idle) (run : State × Option Reply) :
    unlessCommit s run = (s, refuse .busy) := if_neg h

theorem noOperands_nil {rq : Request} (h : rq.operands = []) (s : State) (run : State × Option Reply) :
    noOperands rq s run = run := if_pos (List.isEmpty_iff.2 h)

theorem noOperands_ne_nil {rq : Request} (h : rq.operands ≠ []) (s : State) (run : State × Option Reply) :
    noOperands rq s run = (s, refuse .badValue) := if_neg (mt List.isEmpty_iff.1 h)

theorem copyActive_copies {s : State} {rq : Request} (hs : s.phase = .idle) (ho : rq.operands = []) :
    copyActive rq s = ({ s with shadow := s.active }, some ⟨.ok, []⟩) := by
  rw [copyActive, unlessCommit_idle hs, noOperands_nil ho]

theorem copyActive_busy {s : State} {rq : Request} (hs : s.phase ≠ .idle) : copyActive rq s = (s, some ⟨.busy, []⟩) :=
  unlessCommit_busy hs _

theorem copyActive_badValue {s : State} {rq : Request} (hs : s.phase = .idle) (ho : rq.operands ≠ []) :
    copyActive rq s = (s, some ⟨.badValue, []⟩) := by
  rw [copyActive, unlessCommit_idle hs, noOperands_ne_nil ho, refuse]

/-- A COPY_ACTIVE that the agent takes is answered as its body answers it. -/
theorem exec_copyActive {s t : State} {rq : Request} {rest : List Request} {st : Status} {data : List Word}
    (h : Takes s rq rest) (hc : rq.code = CommandCode.copyActive)
    (hbody : copyActive rq { s with requests := rest } = ({ t with requests := rest }, some ⟨st, data⟩))
    (hresp : t.responses = s.responses) (hans : t.answers = s.answers) :
    exec (.copyActive rq) s = .next (t.answered rq rest st data) :=
  exec_answered h (row := hasCode CommandCode.copyActive) rfl (beq_iff_eq.2 hc) (hc ▸ rfl) t st data hbody hresp hans

/-! ## The end of a commit leaves the banks and the phase as they are -/

@[simp] theorem State.endCommit_keeps (s : State) (r : Reply) :
    (s.endCommit r).active = s.active ∧ (s.endCommit r).shadow = s.shadow ∧ (s.endCommit r).phase = s.phase := by
  rcases s.endCommit_cases r with ⟨_, h⟩ | ⟨_, _, h⟩
  · simp only [h, and_self]
  · simp only [h, State.answerAs_eq, and_self]

/-- After a swap both banks are the shadow bank of before, and no commit is in progress (R107). -/
theorem swap_banks {s : State} {layouts : LayoutSet} (hp : s.phase = .swapPending) (he : s.engine = .idle)
    (hl : s.pendingLayouts = some layouts) :
    (swap s).active = s.shadow ∧ (swap s).shadow = s.shadow ∧ (swap s).phase = .idle := by
  simp [swap, hp, he, hl]

/-- Settles O33: each test of the body gives one answer, and a swap moves the shadow bank into the active one. -/
theorem copyActiveCopies : Obligations.CopyActiveCopies := by
  refine fun s rq rest => ⟨fun h hc => ⟨fun hs ho => ?_, fun hs => ?_, fun hs ho => ?_⟩, fun layouts t hp he hl ht => ?_⟩
  · exact exec_copyActive h hc (copyActive_copies hs ho) rfl rfl
  · exact exec_copyActive h hc (copyActive_busy hs) rfl rfl
  · exact exec_copyActive h hc (copyActive_badValue hs ho) rfl rfl
  · obtain rfl : swap s = t := Host.Outcome.next.inj ht
    obtain ⟨hactive, hshadow, hphase⟩ := swap_banks hp he hl
    exact ⟨hshadow.trans hactive.symm, hphase⟩

end Sys2Proof.Machine
end

section
/-! Proof about validation (R82, R83, R97 to R103): `validate` reports the first check that fails of one list, which holds the
checks of the four phases in their order. -/

namespace Sys2Proof.Machine

/-! ## The first check that fails -/

open Classical in
/-- The fault of the first check that fails. -/
noncomputable def firstFailing (checks : List (CommitFault × Prop)) : Option CommitFault :=
  checks.findSome? fun c => if c.2 then some c.1 else none

theorem firstFailing_cons_of_fails {fault : CommitFault} {fails : Prop} (h : fails) (checks : List (CommitFault × Prop)) :
    firstFailing ((fault, fails) :: checks) = some fault := by
  simp [firstFailing, h]

theorem firstFailing_cons_of_passes {fault : CommitFault} {fails : Prop} (h : ¬ fails) (checks : List (CommitFault × Prop)) :
    firstFailing ((fault, fails) :: checks) = firstFailing checks := by
  simp [firstFailing, h]

/-- A branch of the model that reports a fault is a check in front of the checks of the other branch. -/
theorem ite_eq_firstFailing {fault : CommitFault} {cond fails : Prop} [Decidable cond] {checks : List (CommitFault × Prop)}
    {later : Option CommitFault} (h : cond ↔ fails) (hlater : later = firstFailing checks) :
    (if cond then some fault else later) = firstFailing ((fault, fails) :: checks) := by
  by_cases hc : cond
  · rw [if_pos hc, firstFailing_cons_of_fails (h.1 hc)]
  · rw [if_neg hc, firstFailing_cons_of_passes (mt h.2 hc), hlater]

theorem firstFailing_append (checks more : List (CommitFault × Prop)) :
    firstFailing (checks ++ more) = (firstFailing checks).or (firstFailing more) := List.findSome?_append

theorem firstFailing_map {α : Type} (l : List α) (check : α → CommitFault × Prop) :
    firstFailing (l.map check) = l.findSome? fun x => firstFailing [check x] := by
  simp only [firstFailing, List.findSome?_map, List.findSome?_singleton, Function.comp_def]

theorem firstFailing_flatMap {α : Type} (l : List α) (checks : α → List (CommitFault × Prop)) :
    firstFailing (l.flatMap checks) = l.findSome? fun x => firstFailing (checks x) := by
  induction l with
  | nil => rfl
  | cons x l ih => rw [List.flatMap_cons, firstFailing_append, ih, List.findSome?_cons]; cases firstFailing (checks x) <;> rfl

/-- One check for each member of a list finds the first member that fails. -/
theorem firstFailing_map_eq_find? {α : Type} (l : List α) (check : α → CommitFault × Prop) {p : α → Bool}
    (h : ∀ x, p x = true ↔ (check x).2) :
    firstFailing (l.map check) = (l.find? p).map fun x => (check x).1 := by
  induction l with
  | nil => rfl
  | cons x l ih =>
    rw [List.map_cons, ← ite_eq_firstFailing (h x) ih.symm]
    cases hx : p x <;> simp [hx]

theorem firstFailing_eq_some_iff {checks : List (CommitFault × Prop)} {fault : CommitFault} :
    firstFailing checks = some fault ↔
      ∃ before fails after, checks = before ++ (fault, fails) :: after ∧ fails ∧ ∀ c ∈ before, ¬ c.2 := by
  rw [firstFailing, List.findSome?_eq_some_iff]
  constructor
  · rintro ⟨before, ⟨f, fails⟩, after, hsplit, hc, hbefore⟩
    obtain ⟨hfails, rfl⟩ : fails ∧ f = fault := by simpa using hc
    exact ⟨before, fails, after, hsplit, hfails, by simpa using hbefore⟩
  · rintro ⟨before, fails, after, hsplit, hfails, hbefore⟩
    exact ⟨before, (fault, fails), after, hsplit, if_pos hfails, by simpa using hbefore⟩

theorem firstFailing_eq_none_iff {checks : List (CommitFault × Prop)} :
    firstFailing checks = none ↔ ∀ c ∈ checks, ¬ c.2 := by
  simp [firstFailing]

theorem firstFailing_singleton_eq_some_iff {fault reported : CommitFault} {fails : Prop} :
    firstFailing [(fault, fails)] = some reported ↔ fails ∧ reported = fault := by
  simp [firstFailing, @eq_comm _ reported]

theorem firstFailing_singleton_eq_none_iff {fault : CommitFault} {fails : Prop} :
    firstFailing [(fault, fails)] = none ↔ ¬ fails := by
  simp [firstFailing]

/-- A check that fails first is one of the list. -/
theorem mem_of_firstFailing {checks : List (CommitFault × Prop)} {fault : CommitFault} (h : firstFailing checks = some fault) :
    fault ∈ checks.map Prod.fst := by
  obtain ⟨before, fails, after, rfl, -, -⟩ := firstFailing_eq_some_iff.1 h
  simp

/-! ## The checks, record by record, as the statement lists them -/

/-- The input stream id of a record is that of an enabled record of lower index (R98). -/
def Offends (b : Bank) (i : Fin 8) : Prop :=
  (b.stream i).enabled = true ∧ ∃ j : Fin 8, j < i ∧ (b.stream j).enabled = true ∧ (b.stream j).inputId = (b.stream i).inputId

/-- A descriptor reads an input position: its own, and for an LR input the next (R99). -/
def Reads (d : Descriptor) (position : Nat) : Prop :=
  d.position.val = position ∨ d.inputFormat = .lr ∧ d.position.val + 1 = position

def Splits (d : Descriptor) : Prop := d.kind = .primary ∧ d.mode = .split

def RealOutput (d : Descriptor) : Prop := d.outputFormat = .sr ∨ d.outputFormat = .lr

/-- First phase (R98). -/
def streamCheck (b : Bank) (i : Fin 8) : CommitFault × Prop := (⟨.duplicateStream, i, none⟩, Offends b i)

def channelCheck (b : Bank) (ch : Fin 128) (reason : CommitReason) (fails : Prop) : CommitFault × Prop :=
  (⟨reason, ch, some (b.channel ch).stream⟩, fails)

/-- Second phase: the one check of a COMPANION descriptor, the first of a PRIMARY one (R99). -/
def streamRefCheck (b : Bank) (ch : Fin 128) : CommitFault × Prop :=
  let d := b.channel ch
  channelCheck b ch .badStreamRef (d.kind ≠ .disabled ∧ (b.stream d.stream).enabled = false)

/-- Second phase: position checks (R99). -/
def positionChecks (b : Bank) (ch : Fin 128) : List (CommitFault × Prop) :=
  let d := b.channel ch
  [channelCheck b ch .positionRange (d.kind = .primary ∧
    (b.stream d.stream).declared < d.position.val + (if d.inputFormat = .lr then 2 else 1)),
   channelCheck b ch .positionOverlap (d.kind = .primary ∧ ∃ j : Fin 128, j < ch ∧ (b.channel j).kind = .primary ∧
    (b.channel j).stream = d.stream ∧ ∃ position, Reads d position ∧ Reads (b.channel j) position)]

/-- Second phase: split checks (R100). -/
def splitChecks (b : Bank) (ch : Fin 128) : List (CommitFault × Prop) :=
  let d := b.channel ch
  [channelCheck b ch .badSplit (Splits d ∧ ¬ RealOutput d),
   channelCheck b ch .companionMissing (Splits d ∧ ∀ k, d.companion = some k → (b.channel k).kind ≠ .companion),
   channelCheck b ch .companionStream (Splits d ∧ ∃ k, d.companion = some k ∧ (b.channel k).stream ≠ d.stream),
   channelCheck b ch .companionShared (Splits d ∧ ∃ k, d.companion = some k ∧
    ∃ j : Fin 128, j < ch ∧ Splits (b.channel j) ∧ (b.channel j).companion = some k)]

/-- Second phase: null code check (R101). -/
def nullCheck (b : Bank) (ch : Fin 128) : CommitFault × Prop :=
  let d := b.channel ch
  channelCheck b ch .nullCodeRequired (d.kind = .primary ∧ d.null ≠ .zero ∧
    (d.mode = .plain ∧ ¬ RealOutput d ∧ d.outputNull = none ∨
     d.mode = .split ∧ ∀ k, d.companion = some k → (b.channel k).outputNull = none))

/-- The checks of the second phase that no other than a PRIMARY descriptor fails. -/
def primaryChecks (b : Bank) (ch : Fin 128) : List (CommitFault × Prop) :=
  positionChecks b ch ++ (splitChecks b ch ++ [nullCheck b ch])

def channelChecks (b : Bank) (ch : Fin 128) : List (CommitFault × Prop) := streamRefCheck b ch :: primaryChecks b ch

/-- Third phase (R102). -/
def companionCheck (b : Bank) (ch : Fin 128) : CommitFault × Prop :=
  channelCheck b ch .companionOrphan
    ((b.channel ch).kind = .companion ∧ ∀ j, ¬ (Splits (b.channel j) ∧ (b.channel j).companion = some ch))

/-- The members of a stream in a class, by the fields of their descriptors (R78, R80). -/
def membersOf (b : Bank) (i c : Fin 8) : List (Fin 128) :=
  (List.finRange 128).filter fun ch =>
    decide ((b.channel ch).kind ≠ .disabled ∧ (b.channel ch).stream = i ∧ (b.channel ch).outputClass = c)

def classCheck (b : Bank) (i c : Fin 8) : CommitFault × Prop :=
  (⟨.classFull, c, some i⟩, (b.stream i).enabled = true ∧ (b.classRecord c).memberLimit < (membersOf b i c).length)

/-- Fourth phase: the classes in order, then the length (R82, R83, R103). -/
def layoutChecks (b : Bank) (classes : List (Fin 8)) (i : Fin 8) : List (CommitFault × Prop) :=
  classes.map (classCheck b i) ++
    [(⟨.layoutFull, i, some i⟩, (b.stream i).enabled = true ∧ 96 < (compileStream b i).length)]

/-- The checks of the phases after the first. -/
def laterChecks (b : Bank) (classes : List (Fin 8)) : List (CommitFault × Prop) :=
  (List.finRange 128).flatMap (channelChecks b) ++ ((List.finRange 128).map (companionCheck b) ++
    (List.finRange 8).flatMap (layoutChecks b classes))

/-- The checks of a bank in the order of R97. -/
def bankChecks (b : Bank) (classes : List (Fin 8)) : List (CommitFault × Prop) :=
  (List.finRange 8).map (streamCheck b) ++ (List.finRange 128).flatMap (channelChecks b) ++
  (List.finRange 128).map (companionCheck b) ++ (List.finRange 8).flatMap (layoutChecks b classes)

theorem bankChecks_eq (b : Bank) (classes : List (Fin 8)) :
    bankChecks b classes = (List.finRange 8).map (streamCheck b) ++ laterChecks b classes := by
  simp only [bankChecks, laterChecks, List.append_assoc]

/-! ## Each phase of the model makes its checks -/

theorem streamFault_eq (b : Bank) (i : Fin 8) : streamFault b i = firstFailing [streamCheck b i] :=
  ite_eq_firstFailing (by simp [Offends, and_assoc]) rfl

theorem claims_iff {d : Descriptor} {k : Fin 128} : claims d k = true ↔ Splits d ∧ d.companion = some k := by
  simp [claims, Splits]

theorem mem_inputPositions {d : Descriptor} {position : Nat} : position ∈ inputPositions d ↔ Reads d position := by
  by_cases h : d.inputFormat = .lr <;> simp [inputPositions, Reads, h, eq_comm]

theorem length_inputPositions (d : Descriptor) : (inputPositions d).length = if d.inputFormat = .lr then 2 else 1 := by
  unfold inputPositions
  split <;> rfl

theorem positionTaken_iff {b : Bank} {ch : Fin 128} :
    positionTaken b ch = true ↔ ∃ j : Fin 128, j < ch ∧ (b.channel j).kind = .primary ∧
      (b.channel j).stream = (b.channel ch).stream ∧ ∃ position, Reads (b.channel ch) position ∧ Reads (b.channel j) position := by
  simp [positionTaken, mem_inputPositions, and_assoc, and_comm]

/-- The split checks of a PRIMARY descriptor. -/
theorem splitFault_eq {b : Bank} {ch : Fin 128} (h : (b.channel ch).kind = .primary) :
    (if (b.channel ch).mode = .split then splitFault b ch else none) = firstFailing (splitChecks b ch) := by
  by_cases hm : (b.channel ch).mode = .split
  · have hsplits : Splits (b.channel ch) := ⟨h, hm⟩
    rw [if_pos hm, splitFault]
    refine ite_eq_firstFailing (by simp [RealOutput, hsplits]) ?_
    cases (b.channel ch).companion with
    | none => exact (firstFailing_cons_of_fails ⟨hsplits, nofun⟩ _).symm
    | some k =>
      refine ite_eq_firstFailing (by simp [hsplits]) (ite_eq_firstFailing (by simp [hsplits]) (ite_eq_firstFailing ?_ rfl))
      simp [hsplits, claims_iff]
  · rw [if_neg hm, eq_comm, firstFailing_eq_none_iff]
    simp [splitChecks, channelCheck, Splits, hm]

theorem nullCodeMissing_iff {b : Bank} {d : Descriptor} :
    nullCodeMissing b d = true ↔ d.null ≠ .zero ∧
      (d.mode = .plain ∧ ¬ RealOutput d ∧ d.outputNull = none ∨
       d.mode = .split ∧ ∀ k, d.companion = some k → (b.channel k).outputNull = none) := by
  cases hm : d.mode <;> cases hk : d.companion <;> simp [nullCodeMissing, RealOutput, hm, hk]

theorem firstFailing_primaryChecks_of_ne {b : Bank} {ch : Fin 128} (h : (b.channel ch).kind ≠ .primary) :
    firstFailing (primaryChecks b ch) = none := by
  rw [firstFailing_eq_none_iff]
  simp [primaryChecks, positionChecks, splitChecks, nullCheck, channelCheck, Splits, h]

theorem channelFault_eq (b : Bank) (ch : Fin 128) : channelFault b ch = firstFailing (channelChecks b ch) := by
  cases h : (b.channel ch).kind with
  | disabled =>
    have hother : (b.channel ch).kind ≠ .primary := by simp [h]
    simp only [channelFault, h]
    exact ((firstFailing_cons_of_passes (not_and.2 (absurd h)) _).trans (firstFailing_primaryChecks_of_ne hother)).symm
  | companion =>
    have hother : (b.channel ch).kind ≠ .primary := by simp [h]
    simp only [channelFault, h]
    rw [← ite_not]
    exact ite_eq_firstFailing (by simp [h]) (firstFailing_primaryChecks_of_ne hother).symm
  | primary =>
    simp only [channelFault, h, splitFault_eq h]
    refine ite_eq_firstFailing (by simp [h]) (ite_eq_firstFailing (by simp [h, length_inputPositions])
      (ite_eq_firstFailing (by simp [h, positionTaken_iff]) ?_))
    rw [List.append_eq, List.nil_append, firstFailing_append]
    cases firstFailing (splitChecks b ch) with
    | some fault => rfl
    | none => exact ite_eq_firstFailing (nullCodeMissing_iff.trans (and_iff_right h).symm) rfl

theorem orphanFault_eq (b : Bank) (ch : Fin 128) : orphanFault b ch = firstFailing [companionCheck b ch] :=
  ite_eq_firstFailing (by simp [← claims_iff]) rfl

theorem classMembers_eq (b : Bank) (i c : Fin 8) : classMembers b i c = membersOf b i c :=
  List.filter_congr fun ch _ => by rw [Bool.eq_iff_iff]; simp [isMember, and_assoc]

theorem layoutFault_eq (b : Bank) (i : Fin 8) : layoutFault b i = firstFailing (layoutChecks b (classOrder b) i) := by
  unfold layoutFault
  by_cases he : (b.stream i).enabled = true
  · rw [if_pos he, layoutChecks, firstFailing_append, firstFailing_map_eq_find? (classOrder b) (classCheck b i)
      (p := fun c => decide ((b.classRecord c).memberLimit < (classMembers b i c).length))
      fun c => by simp [classCheck, classMembers_eq, he]]
    cases (classOrder b).find? _ with
    | some c => rfl
    | none => exact ite_eq_firstFailing (by simp [he, Config.maxLayout]) rfl
  · rw [if_neg he, eq_comm, firstFailing_eq_none_iff]
    intro c hc
    simp only [layoutChecks, List.mem_append, List.mem_map, List.mem_singleton] at hc
    rcases hc with ⟨_, _, rfl⟩ | rfl <;> exact fun h => he h.1

/-- Whether a class stands before another in the order of R79. -/
def ClassBefore (b : Bank) (c later : Fin 8) : Prop :=
  (b.classRecord c).rank < (b.classRecord later).rank ∨ (b.classRecord c).rank = (b.classRecord later).rank ∧ c < later

theorem classOrder_pairwise (b : Bank) : (classOrder b).Pairwise (ClassBefore b) := by
  refine List.pairwise_flatMap.2 ⟨fun r _ => ?_, ?_⟩
  · refine ((List.pairwise_lt_finRange 8).filter _).imp_of_mem fun hc hlater hlt => ?_
    simp only [List.mem_filter, beq_iff_eq] at hc hlater
    exact .inr ⟨hc.2.trans hlater.2.symm, hlt⟩
  · refine (List.pairwise_lt_finRange 8).imp fun hlt c hc later hlater => ?_
    simp only [List.mem_filter, beq_iff_eq] at hc hlater
    exact .inl (by rw [hc.2, hlater.2]; exact hlt)

theorem mem_classOrder (b : Bank) (c : Fin 8) : c ∈ classOrder b := by simp [classOrder]

theorem ClassBefore.asymm {b : Bank} {c later : Fin 8} (h : ClassBefore b c later) : ¬ ClassBefore b later c := by
  unfold ClassBefore at *
  omega

/-- A list of every class in the order of R79 is the model's. -/
theorem eq_classOrder {b : Bank} {classes : List (Fin 8)} (hall : ∀ c, c ∈ classes) (hsorted : classes.Pairwise (ClassBefore b)) :
    classes = classOrder b := by
  have : Std.Irrefl (ClassBefore b) := ⟨fun c h => h.asymm h⟩
  have : Std.Antisymm (ClassBefore b) := ⟨fun c later h hback => absurd hback h.asymm⟩
  exact hsorted.eq_of_mem_iff (classOrder_pairwise b) fun c => iff_of_true (hall c) (mem_classOrder b c)

/-! ## Validation -/

theorem firstStreamFault_eq (b : Bank) :
    (List.finRange 8).findSome? (streamFault b) = firstFailing ((List.finRange 8).map (streamCheck b)) := by
  simp only [firstFailing_map, ← streamFault_eq]

/-- The phases after the first, as the model runs them. -/
theorem laterFault_eq (b : Bank) :
    ((List.finRange 128).findSome? (channelFault b)).or (((List.finRange 128).findSome? (orphanFault b)).or
      ((List.finRange 8).findSome? (layoutFault b))) = firstFailing (laterChecks b (classOrder b)) := by
  simp only [laterChecks, firstFailing_append, firstFailing_map, firstFailing_flatMap, ← channelFault_eq, ← orphanFault_eq,
    ← layoutFault_eq]

/-- Validation reports the first check that fails. -/
theorem validate_eq (b : Bank) : validate b = firstFailing (bankChecks b (classOrder b)) := by
  rw [bankChecks_eq, firstFailing_append, ← firstStreamFault_eq, ← laterFault_eq, validate]
  cases (List.finRange 8).findSome? (streamFault b) with
  | some fault => rfl
  | none =>
    cases (List.finRange 128).findSome? (channelFault b) with
    | some fault => rfl
    | none => cases (List.finRange 128).findSome? (orphanFault b) <;> rfl

/-- What the first phase reports: the least record that offends. -/
theorem firstFailing_streamChecks_eq_some_iff {b : Bank} {fault : CommitFault} :
    firstFailing ((List.finRange 8).map (streamCheck b)) = some fault ↔
      ∃ i, Offends b i ∧ (∀ j, j < i → ¬ Offends b j) ∧ fault = ⟨.duplicateStream, i, none⟩ := by
  rw [firstFailing_map, ← Fin.findSome?_eq_findSome?_finRange, Fin.findSome?_eq_some_iff]
  simp only [streamCheck, firstFailing_singleton_eq_some_iff, firstFailing_singleton_eq_none_iff]
  exact exists_congr fun i => and_assoc.trans (and_congr_right fun _ => and_comm)

/-- No check after the first phase gives DUPLICATE_STREAM. -/
theorem reason_ne_duplicateStream_of_mem_laterChecks {b : Bank} {classes : List (Fin 8)} {c : CommitFault × Prop}
    (h : c ∈ laterChecks b classes) : c.1.reason ≠ .duplicateStream := by
  simp only [laterChecks, List.mem_append, List.mem_flatMap, List.mem_map] at h
  rcases h with ⟨ch, -, hc⟩ | ⟨ch, -, rfl⟩ | ⟨i, -, hc⟩
  · simp only [channelChecks, primaryChecks, positionChecks, splitChecks, List.mem_append, List.mem_cons, List.not_mem_nil,
      or_false] at hc
    rcases hc with rfl | (rfl | rfl) | (rfl | rfl | rfl | rfl) | rfl <;> exact nofun
  · exact nofun
  · simp only [layoutChecks, List.mem_append, List.mem_map, List.mem_singleton] at hc
    rcases hc with ⟨_, _, rfl⟩ | rfl <;> exact nofun

theorem validate_of_least_offends {b : Bank} {i : Fin 8} (h : Offends b i) (hleast : ∀ j, j < i → ¬ Offends b j) :
    validate b = some ⟨.duplicateStream, i, none⟩ := by
  rw [validate_eq, bankChecks_eq, firstFailing_append, firstFailing_streamChecks_eq_some_iff.2 ⟨i, h, hleast, rfl⟩]
  rfl

theorem least_offends_of_validate {b : Bank} {fault : CommitFault} (h : validate b = some fault)
    (hreason : fault.reason = .duplicateStream) :
    ∃ i, Offends b i ∧ (∀ j, j < i → ¬ Offends b j) ∧ fault = ⟨.duplicateStream, i, none⟩ := by
  rw [validate_eq, bankChecks_eq, firstFailing_append, Option.or_eq_some_iff] at h
  rcases h with hfirst | ⟨-, hlater⟩
  · exact firstFailing_streamChecks_eq_some_iff.1 hfirst
  · obtain ⟨c, hc, rfl⟩ := List.mem_map.1 (mem_of_firstFailing hlater)
    exact absurd hreason (reason_ne_duplicateStream_of_mem_laterChecks hc)

/-- Settles O55: validation is the first failing check of the list, whose first phase alone gives DUPLICATE_STREAM. -/
theorem duplicateStreamIsFound : Obligations.DuplicateStreamIsFound := by
  refine fun b => ⟨fun i => validate_of_least_offends, fun fault => least_offends_of_validate, fun classes _ hall hsorted => ?_⟩
  obtain rfl := eq_classOrder hall hsorted
  have hchecks := validate_eq b
  exact ⟨fun fault => hchecks ▸ firstFailing_eq_some_iff, hchecks ▸ firstFailing_eq_none_iff⟩

end Sys2Proof.Machine
end


section
/-! The state after device reset: every block holds its reset value (R180), and its tables are those of a commit: no layouts, for a
bank without an enabled stream, which passes validation (R30, R51, R86, R97). -/

namespace Sys2Proof.Machine

set_option Elab.async false

set_option maxRecDepth 2000 in
/-- The reset state is a closed term, and each field of `Fresh` is evaluated, channel by channel and record by record. -/
theorem fresh_reset : Fresh State.reset where
  lanes := by decide
  credits := by decide
  queues := by decide
  agent := by decide
  parameters := by decide
  channels := by decide
  streams := by decide
  classes := by decide
  banks := by decide
  compiler := by decide
  engine := by decide
  sticky := by decide
  hold := by decide
  exceptions := by decide
  laneCounters := by decide
  streamCounters := by decide
  otherCounters := by decide

/-- Settles O3: a device reset is the reset state with the queue of events that stood. -/
theorem deviceResetIsFresh : Obligations.DeviceResetIsFresh :=
  ⟨fresh_reset, fun _ => ⟨_, rfl, { fresh_reset with }, rfl⟩⟩

theorem tables_reset : validate .reset = none ∧ LayoutSet.none = compileLayouts .reset := by
  constructor <;> decide

end Sys2Proof.Machine
end


section
/-! Proofs about the receive lanes: lock, line symbols, frame ends, sorting, enumeration and credit symbols (R144 to R165). -/

namespace Sys2Proof.Machine

set_option Elab.async false

section
variable {s : State} {side : Side}

/-! ## What each symbol does to a lane in each state -/

theorem symbolLock_eq (s : State) (side : Side) :
    symbolLock side s =
      if (s.rx side).state = .down then s.setRx side { s.rx side with state := .syncing, idleCount := 0 } else s := by
  cases h : (s.rx side).state <;> simp [symbolLock, h]

theorem lossOfLock_of_down (h : (s.rx side).state = .down) : lossOfLock side s = s := by simp [lossOfLock, h]

theorem lossOfLock_of_syncing (h : (s.rx side).state = .syncing) :
    lossOfLock side s = (s.setRx side { s.rx side with state := .down }).clearCredits side := by simp [lossOfLock, h]

theorem lossOfLock_of_up (h : (s.rx side).state = .up) : lossOfLock side s = s.laneDown side := by simp [lossOfLock, h]

theorem idleSymbol_of_down (h : (s.rx side).state = .down) : idleSymbol side s = s := by simp [idleSymbol, h]

theorem idleSymbol_of_syncing (h : (s.rx side).state = .syncing) (hn : (s.rx side).idleCount < 15) :
    idleSymbol side s = s.setRx side { s.rx side with idleCount := (s.rx side).idleCount + 1 } := by
  simp only [idleSymbol, h]
  exact if_pos (Nat.succ_lt_succ hn)

theorem idleSymbol_of_sixteenth (h : (s.rx side).state = .syncing) (hn : (s.rx side).idleCount = 15) :
    idleSymbol side s = laneUp side (s.setRx side { s.rx side with idleCount := 16 }) := by
  simp [idleSymbol, h, hn]

theorem idleSymbol_of_up (h : (s.rx side).state = .up) :
    idleSymbol side s = (s.setRx side { s.rx side with invalidCount := 0 }).closeMalformed side := by simp [idleSymbol, h]

theorem invalidSymbol_of_down (h : (s.rx side).state = .down) : invalidSymbol side s = s := by simp [invalidSymbol, h]

theorem invalidSymbol_of_syncing (h : (s.rx side).state = .syncing) :
    invalidSymbol side s = s.setRx side { s.rx side with idleCount := 0 } := by simp [invalidSymbol, h]

theorem invalidSymbol_of_up (h : (s.rx side).state = .up) (hn : (s.rx side).invalidCount < 3) :
    invalidSymbol side s = s.setRx side
      { s.rx side with
        invalidCount := (s.rx side).invalidCount + 1
        assembly := (s.rx side).assembly.map fun b => { b with corrupt := true } } := by
  simp only [invalidSymbol, h]
  exact if_pos (Nat.succ_lt_succ hn)

theorem invalidSymbol_of_fourth (h : (s.rx side).state = .up) (hn : (s.rx side).invalidCount = 3) :
    invalidSymbol side s = (s.setRx side
      { s.rx side with
        invalidCount := 4
        assembly := (s.rx side).assembly.map fun b => { b with corrupt := true } }).laneDown side := by
  simp [invalidSymbol, h, hn]

theorem onValidSymbol_of_down (h : (s.rx side).state = .down) (act : State → State) : s.onValidSymbol side act = s := by
  simp [State.onValidSymbol, h]

theorem onValidSymbol_of_syncing (h : (s.rx side).state = .syncing) (act : State → State) :
    s.onValidSymbol side act = s.setRx side { s.rx side with idleCount := 0 } := by simp [State.onValidSymbol, h]

theorem onValidSymbol_of_up (h : (s.rx side).state = .up) (act : State → State) :
    s.onValidSymbol side act = act (s.setRx side { s.rx side with invalidCount := 0 }) := by simp [State.onValidSymbol, h]

/-- Two updates of one lane are the later one. -/
theorem State.setRx_setRx (s : State) (side : Side) (r r' : RxLane) : (s.setRx side r).setRx side r' = s.setRx side r' := by
  cases side <;> rfl

theorem closeMalformed_of_none (h : (s.rx side).assembly = none) : s.closeMalformed side = s := by
  simp [State.closeMalformed, h]

theorem closeMalformed_of_some {b : Assembly} (h : (s.rx side).assembly = some b) :
    s.closeMalformed side = (s.setRx side { s.rx side with assembly := none }).countRx side RxCounters.countMalformed := by
  simp [State.closeMalformed, h]

/-- A valid symbol that closes a frame leaves the lane between frames, with no run of invalid symbols (R146). -/
theorem closeMalformed_setRx (s : State) (side : Side) :
    (s.setRx side { s.rx side with invalidCount := 0 }).closeMalformed side =
      match (s.rx side).assembly with
      | none => s.setRx side { s.rx side with invalidCount := 0 }
      | some _ => (s.setRx side { s.rx side with invalidCount := 0, assembly := none }).countRx side
          fun k => { k with malformed := satInc k.malformed } := by
  cases h : (s.rx side).assembly with
  | none => exact closeMalformed_of_none (by simp [h])
  | some b =>
    rw [closeMalformed_of_some (b := b) (by simp [h]), State.setRx_rx, State.setRx_setRx]
    rfl

/-- A lane that the fourth invalid symbol makes DOWN keeps nothing of the frame that the symbol marked. -/
theorem laneDown_of_marked (s : State) (side : Side) :
    (s.setRx side { s.rx side with
      invalidCount := 4
      assembly := (s.rx side).assembly.map fun b => { b with corrupt := true } }).laneDown side =
    (s.setRx side { s.rx side with invalidCount := 4 }).laneDown side := by
  cases side <;> simp [State.laneDown_a, State.laneDown_c, State.rx]

/-- The counters of A-receive becoming DOWN (R149). -/
theorem countLaneDown_eq (k : RxCounters) (b : Option Assembly) :
    (if b.isSome then k.countTruncated else k).countLaneDown =
      { k with
        laneDowns := satInc k.laneDowns, truncated := if b = none then k.truncated else satInc k.truncated } := by
  cases b <;> rfl

/-- A command has the outcome of its meaning. -/
theorem next_eq {t u : State} (h : t = u) : (.next t : Host.Outcome State Fault Refusal) = .next u := congrArg _ h

/-- Settles O4: each lane state has one equation for the event. -/
theorem lockAndLoss : Obligations.LockAndLoss := by
  refine fun s => ⟨⟨rfl, rfl, fun _ => ⟨rfl, rfl⟩, fun _ => ⟨rfl, rfl⟩⟩, fun side => next_eq (symbolLock_eq s side),
    fun side h => next_eq (lossOfLock_of_down h), fun h => next_eq (lossOfLock_of_syncing (side := .a) h),
    fun h => next_eq (lossOfLock_of_syncing (side := .c) h), fun h => next_eq ?_, fun h => next_eq ?_⟩
  · rw [lossOfLock_of_up (side := .a) h, State.laneDown_a, countLaneDown_eq]
  · rw [lossOfLock_of_up (side := .c) h, State.laneDown_c, countLaneDown_eq]

/-- Settles O5: each lane state has one equation for an IDLE. -/
theorem idleRun : Obligations.IdleRun := by
  refine fun s => ⟨fun side h => next_eq (idleSymbol_of_down h), fun side h hn => next_eq (idleSymbol_of_syncing h hn),
    fun h hn => next_eq (idleSymbol_of_sixteenth (side := .c) h hn),
    fun h hn => next_eq (idleSymbol_of_sixteenth (side := .a) h hn), fun side h hb => next_eq ?_,
    fun side b h hb => next_eq ?_⟩
  · rw [idleSymbol_of_up h, closeMalformed_setRx, hb]
  · rw [idleSymbol_of_up h, closeMalformed_setRx, hb]

/-- Settles O6: each lane state has one equation for an invalid symbol; the fourth one drops the frame that it marks. -/
theorem invalidRun : Obligations.InvalidRun := by
  refine fun side s => ⟨fun h => next_eq (invalidSymbol_of_down h), fun h => next_eq (invalidSymbol_of_syncing h),
    fun h hn => next_eq (invalidSymbol_of_up h hn), fun h hn => next_eq ?_⟩
  rw [invalidSymbol_of_fourth h hn, laneDown_of_marked]
  exact (lossOfLock_of_up (by simpa using h)).symm

/-! ## START and data words -/

/-- Settles O7: on an UP lane START opens a frame after the close of one under way, and a data word is gathered or counted. -/
theorem framesOpenAndGather : Obligations.FramesOpenAndGather := by
  refine fun side s w => ⟨fun h => ⟨next_eq (onValidSymbol_of_down h _), next_eq (onValidSymbol_of_down h _)⟩,
    fun h => ⟨next_eq (onValidSymbol_of_syncing h _), next_eq (onValidSymbol_of_syncing h _)⟩,
    fun h hb => ⟨next_eq ?_, next_eq ?_⟩, fun b h hb => ⟨next_eq ?_, next_eq ?_⟩⟩
  · rw [startSymbol, onValidSymbol_of_up h, closeMalformed_setRx, hb]
    cases side <;> rfl
  · simp [dataWordSymbol, onValidSymbol_of_up h, hb]; rfl
  · rw [startSymbol, onValidSymbol_of_up h, closeMalformed_setRx, hb]
    cases side <;> rfl
  · simp [dataWordSymbol, onValidSymbol_of_up h, hb, State.setRx_setRx]; rfl

/-! ## The close of a frame -/

theorem frameEnd_of_down (h : (s.rx side).state = .down) (close : Assembly → State → State) : frameEnd side close s = s :=
  onValidSymbol_of_down h _

theorem frameEnd_of_syncing (h : (s.rx side).state = .syncing) (close : Assembly → State → State) :
    frameEnd side close s = s.setRx side { s.rx side with idleCount := 0 } := onValidSymbol_of_syncing h _

theorem frameEnd_of_none (h : (s.rx side).state = .up) (hb : (s.rx side).assembly = none)
    (close : Assembly → State → State) :
    frameEnd side close s = (s.setRx side { s.rx side with invalidCount := 0 }).countRx side RxCounters.countMalformed := by
  simp [frameEnd, onValidSymbol_of_up h, hb]

theorem frameEnd_of_some {b : Assembly} (h : (s.rx side).state = .up) (hb : (s.rx side).assembly = some b)
    (close : Assembly → State → State) :
    frameEnd side close s = close b (s.setRx side { s.rx side with invalidCount := 0, assembly := none }) := by
  simp [frameEnd, onValidSymbol_of_up h, hb, State.setRx_setRx]

end

/-! ## Frame ends on A-receive -/

/-- A frame that passes the checks is of the kind that its header shows. -/
theorem shownKind_of_pass {b : Assembly} {k : FrameKind} {f : Frame} (h : b.verdict = .pass k f) : b.shownKind = some k := by
  unfold Assembly.verdict at h
  grind

/-- The close of a good frame on A-receive: a DATA frame lowers the outstanding count, where it is not 0 (R158). -/
theorem closeARx_of_pass {b : Assembly} {k : FrameKind} {f : Frame} (h : b.verdict = .pass k f) (s : State) :
    closeARx b s = sortARx k f (if k = .data then { s with outstanding := s.outstanding - 1 } else s) := by
  simp only [closeARx, h, shownKind_of_pass h]
  by_cases hk : k = .data
  · cases ho : s.outstanding with
    | zero =>
      have hs : { s with outstanding := 0 } = s := by rw [← ho]
      simp [hk, hs]
    | succ n => simp [hk]
  · simp [hk]

/-- The close on A-receive of a frame that fails a check and that lowered the outstanding count: it is answered (R161). -/
theorem closeARx_of_fail_lowered {b : Assembly} {why : FrameFailure} (h : b.verdict = .fail why)
    (hdata : b.shownKind = some .data) {s : State} (ho : 0 < s.outstanding) :
    closeARx b s = ({ s with outstanding := s.outstanding - 1 }.countRx .a (·.countFailure why)).grantData := by
  simp [closeARx, h, hdata, ho]

theorem closeARx_of_fail {b : Assembly} {why : FrameFailure} (h : b.verdict = .fail why) {s : State}
    (hnot : b.shownKind ≠ some .data ∨ s.outstanding = 0) : closeARx b s = s.countRx .a (·.countFailure why) := by
  have hlowers : (b.shownKind == some .data && decide (0 < s.outstanding)) = false := by
    rcases hnot with hk | ho
    · simp [hk]
    · simp [ho]
  simp only [closeARx, h, hlowers]
  rfl

theorem grantData_of_room {s : State} (hup : s.aRx.state = .up) (hroom : s.pendingGrants .data < 8) :
    s.grantData = { s with grants := s.grants ++ [.data], outstanding := s.outstanding + 1 } := if_pos ⟨hup, hroom⟩

theorem grantData_of_full {s : State} (hfull : 8 ≤ s.pendingGrants .data) : s.grantData = s :=
  if_neg fun h => Nat.not_lt.2 hfull h.2

theorem aReceiveFrameEnd_of_some {s : State} {b : Assembly} (h : s.aRx.state = .up) (hb : s.aRx.assembly = some b) :
    aReceiveFrameEnd s = closeARx b { s with aRx := { s.aRx with invalidCount := 0, assembly := none } } :=
  frameEnd_of_some (side := .a) h hb closeARx

/-- Settles O10: END closes a good frame, which each kind sorts in its way. -/
theorem aReceiveSorts : Obligations.AReceiveSorts := by
  refine fun s => ⟨fun h => next_eq (frameEnd_of_down (side := .a) h _),
    fun h => next_eq (frameEnd_of_syncing (side := .a) h _), fun h hb => next_eq (frameEnd_of_none (side := .a) h hb _),
    fun b k f h hb hpass => ?_⟩
  have hend := (aReceiveFrameEnd_of_some h hb).trans (closeARx_of_pass hpass _)
  refine ⟨fun hk hroom => next_eq (hend.trans ?_), fun hk hfull => next_eq (hend.trans ?_),
    fun hk hroom => next_eq (hend.trans ?_), fun hk hfull => next_eq (hend.trans ?_), fun hk => next_eq (hend.trans ?_)⟩
  · simp [hk, sortARx, hroom]
  · simp [hk, sortARx, Nat.not_lt.2 hfull]
  · rcases hk with rfl | rfl | rfl <;> simp [sortARx, hroom]
  · rcases hk with rfl | rfl | rfl <;> simp [sortARx, Nat.not_lt.2 hfull]
  · rcases hk with rfl | rfl <;> rfl

/-! ## Frame ends on C-receive -/

theorem cReceiveFrameEnd_of_some {s : State} {b : Assembly} (h : s.cRx.state = .up) (hb : s.cRx.assembly = some b) :
    cReceiveFrameEnd s = closeCRx b { s with cRx := { s.cRx with invalidCount := 0, assembly := none } } :=
  frameEnd_of_some (side := .c) h hb closeCRx

theorem closeCRx_of_pass {b : Assembly} {k : FrameKind} {f : Frame} (h : b.verdict = .pass k f) (s : State) :
    closeCRx b s = sortCRx k f s := by simp [closeCRx, h]

theorem closeCRx_of_fail {b : Assembly} {why : FrameFailure} (h : b.verdict = .fail why) (s : State) :
    closeCRx b s = s.countRx .c (·.countFailure why) := by simp [closeCRx, h]

/-- Settles O12: END closes a frame, which its verdict, its kind and the address of a REQUEST sort. -/
theorem cReceiveSorts : Obligations.CReceiveSorts := by
  refine ⟨fun s => ⟨fun h => next_eq (frameEnd_of_down (side := .c) h _),
    fun h => next_eq (frameEnd_of_syncing (side := .c) h _), fun h hb => next_eq (frameEnd_of_none (side := .c) h hb _)⟩,
    fun f => rfl, fun s b h hb => ?_⟩
  have hend := cReceiveFrameEnd_of_some h hb
  refine ⟨fun f hpass => ?_, fun k f hpass hk => next_eq ((hend.trans (closeCRx_of_pass hpass _)).trans ?_),
    fun why hfail => next_eq ((hend.trans (closeCRx_of_fail hfail _)).trans ?_)⟩
  · replace hend := hend.trans (closeCRx_of_pass hpass _)
    refine ⟨fun hall => next_eq (hend.trans ?_), fun hone hnode hdest => next_eq (hend.trans ?_),
      fun hone hother => next_eq (hend.trans ?_)⟩
    · rw [sortCRx, if_pos (show _ = broadcastAddress from hall), State.offerRequest, State.offerForward]
      split <;> rfl
    · rw [sortCRx, if_neg (show ¬ _ = broadcastAddress from hone), if_pos ⟨hnode, hdest⟩]
      rfl
    · rw [sortCRx, if_neg (show ¬ _ = broadcastAddress from hone), if_neg (not_and_or.2 (hother.imp_left not_not.2))]
      rfl
  · rcases hk with rfl | rfl | rfl | rfl <;> rfl
  · cases why <;> rfl

/-! ## Enumeration -/

theorem enumerateWaits_iff {a : Address} {s : State} :
    enumerateWaits a s = true ↔
      s.cRx.state = .up ∧ ∃ b f, s.cRx.assembly = some b ∧ b.verdict = .pass .enumerate f ∧ f.enumerateAddress = a := by
  unfold enumerateWaits
  simp only [Bool.and_eq_true, beq_iff_eq]
  refine and_congr_right fun _ => ?_
  split
  · next b hb =>
    split
    · next f hpass => simp [hb, hpass]
    · next hnot =>
      simp only [Bool.false_eq_true, false_iff, not_exists]
      rintro b' f ⟨hb', hpass, -⟩
      obtain rfl := Option.some.inj (hb.symm.trans hb')
      exact hnot f hpass
  · next hnone => simp [hnone]

theorem takenAddress_eq (a : Address) : takenAddress a = if a = 63 then 0 else a := rfl

/-- Where a REPORT goes, by the answer list and the response queue (R165, R170). -/
theorem placeReport_eq (s : State) :
    s.placeReport =
      if s.answers.any AgentFrame.isReport then
        { s with answers := s.answers.map fun f => if f.isReport then .report s.nodeAddress else f }
      else if s.answers = [] ∧ s.responses.length < 2 then { s with responses := s.responses ++ [.report s.nodeAddress] }
      else { s with answers := s.answers ++ [.report s.nodeAddress] } := by
  unfold State.placeReport State.place
  simp

theorem placeReport_keeps (s : State) : s.placeReport.forward = s.forward ∧ s.placeReport.laneCounters = s.laneCounters := by
  rw [placeReport_eq]
  split
  · exact ⟨rfl, rfl⟩
  · split <;> exact ⟨rfl, rfl⟩

/-- A frame offered to the forward FIFO of a state with the FIFO and the lane counters of another. -/
theorem offerForward_of_kept {s t : State} (h : t.forward = s.forward ∧ t.laneCounters = s.laneCounters) (f : Frame) :
    t.offerForward f =
      if s.forward.length < 4 then { t with forward := s.forward ++ [f] }
      else { t with laneCounters := { s.laneCounters with forwardOverflow := satInc s.laneCounters.forwardOverflow } } := by
  rw [← h.1, ← h.2]
  rfl

theorem enumerated_eq (carried : Address) (s : State) :
    enumerated carried s =
      (if takenAddress carried = 0 then
          { s with nodeAddress := takenAddress carried, cache := [], commitEnumerated := s.deferredCommit.isSome }
        else { s with
          nodeAddress := takenAddress carried, cache := []
          commitEnumerated := s.deferredCommit.isSome }.placeReport).offerForward
        (enumerateFrame (nextAddress (takenAddress carried))) := rfl

/-- Settles O13: the row ENUMERATE and END close the same frame, and the agent takes its address in one event. -/
theorem enumerationIsTaken : Obligations.EnumerationIsTaken := by
  refine ⟨fun a s hnot => next_eq (if_neg (mt enumerateWaits_iff.1 hnot)), fun a s hwaits => ?_⟩
  have hwait : enumerateWaits a s = true := enumerateWaits_iff.2 hwaits
  refine ⟨next_eq (cReceiveFrameEnd_enumerate s a hwait), next_eq ?_⟩
  rw [enumerate, if_pos hwait, enumerated_eq, offerForward_of_kept (s := s)]
  · rw [placeReport_eq]; rfl
  · split
    · exact ⟨rfl, rfl⟩
    · exact placeReport_keeps _

/-! ## Credit symbols received -/

theorem creditSymbol_a {s : State} (h : s.aRx.state = .up) (act : State → State) :
    creditSymbol .a act s = (s.setRx .a { s.rx .a with invalidCount := 0 }).closeMalformed .a :=
  onValidSymbol_of_up (side := .a) h _

theorem creditSymbol_c {s : State} (h : s.cRx.state = .up) (act : State → State) :
    creditSymbol .c act s = act ((s.setRx .c { s.rx .c with invalidCount := 0 }).closeMalformed .c) :=
  onValidSymbol_of_up (side := .c) h _

theorem State.closeMalformed_credits (s : State) (side : Side) :
    (s.closeMalformed side).dataCredits = s.dataCredits ∧ (s.closeMalformed side).controlCredits = s.controlCredits := by
  rcases s.closeMalformed_cases side with ⟨-, heq⟩ | ⟨b, -, heq⟩ <;> rw [heq] <;> simp

/-- Settles O14: on an UP lane a credit symbol closes the frame it stands in, and on C-receive then acts on the counters. -/
theorem creditSymbolsReceived : Obligations.CreditSymbolsReceived := by
  refine fun s => ⟨fun h => ?_, fun h => ?_, fun side h => ?_, fun side h => ?_⟩
  · obtain ⟨hdata, hcontrol⟩ := (s.setRx .c { s.rx .c with invalidCount := 0 }).closeMalformed_credits .c
    refine ⟨next_eq ((creditSymbol_c h _).trans ?_), next_eq ((creditSymbol_c h _).trans ?_),
      next_eq ((creditSymbol_c h _).trans ?_)⟩
    · rw [hdata, closeMalformed_setRx]; rfl
    · rw [hcontrol, closeMalformed_setRx]; rfl
    · rw [closeMalformed_setRx] <;> rfl
  · have hclosed (act : State → State) := (creditSymbol_a h act).trans (closeMalformed_setRx s .a)
    exact ⟨next_eq (hclosed _), next_eq (hclosed _), next_eq (hclosed _)⟩
  · have hkept (act : State → State) : creditSymbol side act s = s := onValidSymbol_of_down h _
    exact ⟨next_eq (hkept _), next_eq (hkept _), next_eq (hkept _)⟩
  · have hrun (act : State → State) : creditSymbol side act s = s.setRx side { s.rx side with idleCount := 0 } :=
      onValidSymbol_of_syncing h _
    exact ⟨next_eq (hrun _), next_eq (hrun _), next_eq (hrun _)⟩

end Sys2Proof.Machine
end


section
/-! Proofs about whole frames: the check value, the verdict of a closed frame, and frames that arrive symbol by symbol
(R146 to R148, R153, R158, R161). -/

namespace Sys2Proof.Machine

set_option Elab.async false

/-! ## The check value, bit by bit (R147) -/

theorem crcWord_eq_foldl (r : BitVec 16) (w : Word) :
    crcWord r w = ((List.range 32).map fun i => w.getLsbD (31 - i)).foldl crcBit r := by
  rw [List.foldl_map]; rfl

theorem crc16_eq_foldl (words : List Word) :
    crc16 words = (words.flatMap fun w => (List.range 32).map fun i => w.getLsbD (31 - i)).foldl crcBit 0xFFFF#16 := by
  rw [List.foldl_flatMap, crc16]
  simp only [← crcWord_eq_foldl]

/-! ## The verdict of a closed frame (R148) -/

theorem isTooLong_iff (b : Assembly) :
    b.isTooLong = true ↔ b.overrun = true ∨ ∃ k, b.shownKind = some k ∧ k.maxPayload < payloadCount (b.words.headD 0) := by
  unfold Assembly.isTooLong
  cases b.shownKind <;> simp

theorem isShort_iff (b : Assembly) : b.isShort = true ↔ b.words.length < b.headerWords + 1 := decide_eq_true_iff

/-- A frame with a word fails the third check where its last word is not the check value of the words before it. -/
theorem isCorrupt_iff {b : Assembly} (h : b.words ≠ []) :
    b.isCorrupt = true ↔
      b.corrupt = true ∨ ∃ (before : List Word) (last : Word), b.words = before ++ [last] ∧ last ≠ crcOf before := by
  obtain ⟨words, last, hwords⟩ : ∃ before last, b.words = before ++ [last] :=
    ⟨_, _, (List.dropLast_append_getLast h).symm⟩
  simp only [Assembly.isCorrupt, hwords, Bool.or_eq_true, bne_iff_ne, List.getLastD_concat, List.dropLast_concat]
  refine or_congr_right ⟨fun hne => ⟨_, _, rfl, hne⟩, ?_⟩
  rintro ⟨before, last', heq, hne⟩
  obtain ⟨rfl, hlast⟩ := List.append_inj' heq rfl
  rwa [(List.cons.inj hlast).1]

/-- The fourth check, for a frame of a known kind that is long enough for the header and the CRC word. -/
theorem isBadContent_iff {b : Assembly} {k : FrameKind} (hk : b.shownKind = some k) (hlong : k.headerWords + 1 ≤ b.words.length) :
    b.isBadContent = true ↔
      b.words.length ≠ k.headerWords + payloadCount (b.words.headD 0) + 1 ∨
      k = .data ∧ conditionedFlag (b.words.headD 0) = false ∧ payloadCount (b.words.headD 0) = 0 ∨
      k.fixedLength = true ∧ payloadCount (b.words.headD 0) ≠ k.maxPayload := by
  simp only [Assembly.isBadContent, hk, Bool.or_eq_true, Bool.and_eq_true, decide_eq_true_eq, beq_iff_eq, bne_iff_ne,
    Bool.not_eq_true', or_assoc, and_assoc]
  exact or_congr_left (not_congr (by omega))

theorem fixedLength_iff (k : FrameKind) : k.fixedLength = true ↔ k = .notice ∨ k = .enumerate ∨ k = .report := by
  cases k <;> simp [FrameKind.fixedLength]

section
variable {b : Assembly}

theorem verdict_of_tooLong (h : b.isTooLong = true) : b.verdict = .fail .tooLong := if_pos h

theorem verdict_of_short (hlong : b.isTooLong = false) (h : b.isShort = true) : b.verdict = .fail .malformed := by
  simp [Assembly.verdict, hlong, h]

theorem verdict_of_corrupt (hlong : b.isTooLong = false) (hshort : b.isShort = false) (h : b.isCorrupt = true) :
    b.verdict = .fail .crcError := by
  simp [Assembly.verdict, hlong, hshort, h]

theorem verdict_of_badContent (hlong : b.isTooLong = false) (hshort : b.isShort = false) (hcrc : b.isCorrupt = false)
    (h : b.isBadContent = true) : b.verdict = .fail .malformed := by
  simp [Assembly.verdict, hlong, hshort, hcrc, h]

theorem verdict_of_good (hlong : b.isTooLong = false) (hshort : b.isShort = false) (hcrc : b.isCorrupt = false)
    (h : b.isBadContent = false) {k : FrameKind} (hk : b.shownKind = some k) : b.verdict = .pass k ⟨b.words.dropLast⟩ := by
  simp [Assembly.verdict, hlong, hshort, hcrc, h, hk]

end

/-- A grant that answers a frame whose close lowered the count leaves the count as it was (R161). -/
theorem closeARx_of_fail_granted {b : Assembly} {why : FrameFailure} (h : b.verdict = .fail why)
    (hdata : b.shownKind = some .data) {s : State} (ho : 0 < s.outstanding) (hup : s.aRx.state = .up)
    (hroom : s.pendingGrants .data < 8) :
    closeARx b s = { s.countRx .a (·.countFailure why) with grants := s.grants ++ [.data] } := by
  have hback : s.outstanding - 1 + 1 = s.outstanding := Nat.sub_add_cancel ho
  rw [closeARx_of_fail_lowered h hdata ho]
  refine (grantData_of_room (s := { s with outstanding := s.outstanding - 1 }.countRx .a (·.countFailure why)) hup hroom).trans ?_
  show { s.countRx .a (·.countFailure why) with grants := s.grants ++ [CreditSymbol.data], outstanding := s.outstanding - 1 + 1 } = _
  rw [hback]
  rfl

theorem closeARx_of_fail_full {b : Assembly} {why : FrameFailure} (h : b.verdict = .fail why)
    (hdata : b.shownKind = some .data) {s : State} (ho : 0 < s.outstanding) (hfull : 8 ≤ s.pendingGrants .data) :
    closeARx b s = { s.countRx .a (·.countFailure why) with outstanding := s.outstanding - 1 } := by
  rw [closeARx_of_fail_lowered h hdata ho]
  exact grantData_of_full hfull

/-- Settles O11: the checks of R148 in their order, each by what the statement says of it, and the three ends of a dropped frame. -/
theorem droppedDataIsGranted : Obligations.DroppedDataIsGranted := by
  unfold Obligations.DroppedDataIsGranted
  intro check shown header most
  have hcheck (words : List Word) : crcOf words = 0#16 ++ check words := by rw [crcOf, crc16_eq_foldl]; rfl
  have hshown (words : List Word) (b : Assembly) (hb : b.words = words) : b.shownKind = shown words := by
    subst hb; unfold Assembly.shownKind; cases b.words <;> rfl
  have hheader (k : FrameKind) : k.headerWords = header k := by cases k <;> rfl
  have hmost (k : FrameKind) : k.maxPayload = most k := by cases k <;> rfl
  refine ⟨fun words => ⟨hcheck words, ?_⟩, fun b => ?_, fun s b why h hb hfail => ?_⟩
  · cases words with
    | nil => rfl
    | cons w rest =>
      show (match kindOfWord w with | some k => k.headerWords + k.maxPayload + 1 | none => _) = match kindOfWord w with
        | some k => header k + most k + 1 | none => _
      cases kindOfWord w with
      | none => rfl
      | some k => dsimp only; rw [hheader, hmost]
  · intro count tooLong short crcError badContent
    have hlong : b.isTooLong = true ↔ tooLong := by
      rw [isTooLong_iff, hshown _ b rfl]
      simp only [hmost]; rfl
    have hshort : b.isShort = true ↔ short := by
      rw [isShort_iff, Assembly.headerWords, hshown _ b rfl]
      simp only [hheader]; rfl
    have hcrc (hnot : ¬ short) : b.isCorrupt = true ↔ crcError := by
      have hsome : b.words ≠ [] := fun hnil => hnot (by simp only [short, hnil]; exact Nat.succ_pos _)
      rw [isCorrupt_iff hsome]
      simp only [hcheck]; rfl
    have hbad (hnot : ¬ short) (k : FrameKind) (hk : shown b.words = some k) : b.isBadContent = true ↔ badContent k := by
      have hkind := (hshown _ b rfl).trans hk
      rw [isBadContent_iff hkind (by simp only [short, hk] at hnot; rw [hheader]; exact Nat.not_lt.1 hnot), fixedLength_iff,
        hheader, hmost]
      rfl
    refine ⟨hshown _ b rfl, fun h => verdict_of_tooLong (hlong.2 h),
      fun hl h => verdict_of_short (Bool.eq_false_iff.2 (mt hlong.1 hl)) (hshort.2 h),
      fun hl hs h => verdict_of_corrupt (Bool.eq_false_iff.2 (mt hlong.1 hl)) (Bool.eq_false_iff.2 (mt hshort.1 hs)) ((hcrc hs).2 h),
      fun hl hs hc => ?_⟩
    have hl' := Bool.eq_false_iff.2 (mt hlong.1 hl)
    have hs' := Bool.eq_false_iff.2 (mt hshort.1 hs)
    have hc' := Bool.eq_false_iff.2 (mt (hcrc hs).1 hc)
    refine ⟨fun hnone => verdict_of_badContent hl' hs' hc' ?_, fun k hk => ⟨fun h => ?_, fun h => ?_⟩⟩
    · simp only [Assembly.isBadContent, (hshown _ b rfl).trans hnone]
    · exact verdict_of_badContent hl' hs' hc' ((hbad hs k hk).2 h)
    · exact verdict_of_good hl' hs' hc' (Bool.eq_false_iff.2 (mt (hbad hs k hk).1 h)) ((hshown _ b rfl).trans hk)
  · intro u
    let v : State := { s with aRx := { s.aRx with invalidCount := 0, assembly := none } }
    have hend : aReceiveFrameEnd s = closeARx b v := aReceiveFrameEnd_of_some h hb
    refine ⟨fun hdata ho hroom => next_eq (hend.trans ((closeARx_of_fail_granted (s := v) hfail hdata ho h hroom).trans ?_)),
      fun hdata ho hfull => next_eq (hend.trans ((closeARx_of_fail_full (s := v) hfail hdata ho hfull).trans ?_)),
      fun hnot => next_eq (hend.trans ((closeARx_of_fail (s := v) hfail hnot).trans ?_))⟩ <;>
    cases why <;> rfl

/-! ## Frames symbol by symbol -/

/-- The data words of a list, gathered one after another into the frame that an UP lane is inside of, between no invalid symbols. -/
theorem run_dataWords {side : Side} (words : List Word) (more : List Instr) {s : State} {b : Assembly}
    (hup : (s.rx side).state = .up) (hvalid : (s.rx side).invalidCount = 0) (hb : (s.rx side).assembly = some b) :
    run (words.map (.dataWordSymbol side) ++ more) s =
      run more (s.setRx side { s.rx side with assembly := some (words.foldl Assembly.gather b) }) := by
  induction words generalizing s b with
  | nil =>
    rw [List.map_nil, List.nil_append, List.foldl_nil, ← hb]
    cases side <;> rfl
  | cons w ws ih =>
    have hgathered : exec (.dataWordSymbol side w) s = .next (s.setRx side { s.rx side with assembly := some (b.gather w) }) := by
      refine next_eq ?_
      simp [dataWordSymbol, onValidSymbol_of_up hup, hb, State.setRx_setRx, hvalid]
    rw [List.map_cons, List.cons_append, run, hgathered, List.foldl_cons]
    dsimp only
    rw [ih (b := b.gather w) (by simpa using hup) (by simpa using hvalid) (by simp), State.setRx_rx, State.setRx_setRx]

/-- START, the words of an admitted frame with its CRC word, and END, on an UP lane between frames: the frame is closed as one that
passes the checks. -/
theorem run_frame {side : Side} {k : FrameKind} {words : List Word} (h : IsFrame k words) {s : State}
    (hup : (s.rx side).state = .up) (hnone : (s.rx side).assembly = none) (ends : Instr) (close : Assembly → State → State)
    (hends : ∀ t, exec ends t = .next (frameEnd side close t)) :
    run (.startSymbol side :: ((words ++ [crcOf words]).map (.dataWordSymbol side) ++ [ends])) s =
      .next (close ⟨words ++ [crcOf words], false, false⟩ (s.setRx side { s.rx side with invalidCount := 0, assembly := none })) := by
  have hstart : exec (.startSymbol side) s =
      .next (s.setRx side { s.rx side with invalidCount := 0, assembly := some .fresh }) := by
    refine next_eq ?_
    rw [startSymbol, onValidSymbol_of_up hup, closeMalformed_setRx, hnone]
    cases side <;> rfl
  rw [run, hstart]
  dsimp only
  rw [run_dataWords _ _ (b := .fresh) (by simpa using hup) (by simp) (by simp), gather_frame h, run, hends]
  rw [frameEnd_of_some (b := ⟨words ++ [crcOf words], false, false⟩) (by simpa using hup) (by simp)]
  simp [run, State.setRx_setRx]

theorem kindOfWord_eq_data_iff (w : Word) : kindOfWord w = some .data ↔ w.extractLsb' 28 4 = 1 := by
  unfold kindOfWord bits
  rw [← BitVec.toNat_inj]
  split <;> simp_all

/-- The words of a DATA frame, by the bits of its first word (Tables 11-1, 11-2, 8-2). -/
theorem isFrame_data_iff (words : List Word) :
    IsFrame .data words ↔
      ∃ w rest, words = w :: rest ∧ w.extractLsb' 28 4 = 1 ∧ words.length = 4 + (w.extractLsb' 0 8).toNat ∧
        words.length ≤ 68 ∧ (w.getLsbD 27 = false → 4 < words.length) := by
  constructor
  · intro h
    obtain ⟨w, rest, rfl, hkind, hlength⟩ := h.kind
    exact ⟨w, rest, rfl, (kindOfWord_eq_data_iff w).1 hkind, hlength, h.maximum, h.sample rfl⟩
  · rintro ⟨w, rest, rfl, hkind, hlength, hmax, hsample⟩
    exact ⟨⟨w, rest, rfl, (kindOfWord_eq_data_iff w).2 hkind, hlength⟩, hmax, nofun, fun _ => hsample⟩

/-- Settles O8: the words are gathered, END closes a frame that passes the checks, and it enters the ingress buffer. -/
theorem wholeDataFrameIsReceived : Obligations.WholeDataFrameIsReceived := by
  refine ⟨isFrame_data_iff, fun s words h hup hnone hroom => ?_⟩
  rw [run_frame (side := .a) h hup hnone .aReceiveFrameEnd closeARx fun _ => rfl, closeARx_of_pass (verdict_frame h)]
  simp [sortARx, hroom, hnone, State.rx]

/-! ## A REQUEST frame -/

/-- The header words of a REQUEST (Table 11-3). -/
def requestWords (rq : Request) : List Word :=
  [2#4 ++ rq.dest ++ 0#6 ++ rq.tag ++ BitVec.ofNat 8 rq.operands.length, 0#24 ++ rq.code] ++ rq.operands

section
variable (rq : Request)

theorem requestWord_kind :
    (2#4 ++ rq.dest ++ 0#6 ++ rq.tag ++ BitVec.ofNat 8 rq.operands.length : Word).extractLsb' 28 4 = 2 := by
  rw [BitVec.extractLsb'_append_eq_of_le (by decide), BitVec.extractLsb'_append_eq_of_le (by decide),
    BitVec.extractLsb'_append_eq_of_le (by decide), BitVec.extractLsb'_append_eq_of_le (by decide), BitVec.extractLsb'_eq_self]
  rfl

theorem requestWord_dest :
    (2#4 ++ rq.dest ++ 0#6 ++ rq.tag ++ BitVec.ofNat 8 rq.operands.length : Word).extractLsb' 22 6 = rq.dest := by
  rw [BitVec.extractLsb'_append_eq_of_le (by decide), BitVec.extractLsb'_append_eq_of_le (by decide),
    BitVec.extractLsb'_append_eq_of_le (by decide), BitVec.extractLsb'_append_eq_of_add_le (by decide), BitVec.extractLsb'_eq_self]

theorem requestWord_tag :
    (2#4 ++ rq.dest ++ 0#6 ++ rq.tag ++ BitVec.ofNat 8 rq.operands.length : Word).extractLsb' 8 8 = rq.tag := by
  rw [BitVec.extractLsb'_append_eq_of_le (by decide), BitVec.extractLsb'_append_eq_of_add_le (by decide),
    BitVec.extractLsb'_eq_self]

theorem requestWord_count :
    (2#4 ++ rq.dest ++ 0#6 ++ rq.tag ++ BitVec.ofNat 8 rq.operands.length : Word).extractLsb' 0 8 =
      BitVec.ofNat 8 rq.operands.length := by
  rw [BitVec.extractLsb'_append_eq_of_add_le (by decide), BitVec.extractLsb'_eq_self]

theorem requestWord_code : (0#24 ++ rq.code : Word).extractLsb' 0 8 = rq.code := by
  rw [BitVec.extractLsb'_append_eq_of_add_le (by decide), BitVec.extractLsb'_eq_self]

/-- The request of the words of a REQUEST is the request. -/
theorem request_requestWords : (⟨requestWords rq⟩ : Frame).request = rq := by
  show (⟨_, _, _, _⟩ : Request) = rq
  have hdest := requestWord_dest rq
  have htag := requestWord_tag rq
  have hcode := requestWord_code rq
  simp only [requestWords, Frame.word, List.cons_append, List.nil_append, List.getD_cons_zero, List.getD_cons_succ,
    List.drop_succ_cons, List.drop_zero, hdest, htag, hcode]

theorem isFrame_requestWords (h : rq.operands.length ≤ 32) : IsFrame .request (requestWords rq) where
  kind := by
    refine ⟨_, _, rfl, ?_, ?_⟩
    · rw [kindOfWord, bits, requestWord_kind]; rfl
    · have hcount : payloadCount (2#4 ++ rq.dest ++ 0#6 ++ rq.tag ++ BitVec.ofNat 8 rq.operands.length) = rq.operands.length := by
        rw [payloadCount, bits, requestWord_count, BitVec.toNat_ofNat, Nat.mod_eq_of_lt (by omega)]
      rw [hcount, Nat.add_comm]; rfl
  maximum := by
    show rq.operands.length + 2 ≤ 34
    omega
  fixed := nofun
  sample := nofun

end

/-- Settles O9: the words are gathered, END closes a frame that passes the checks, and the agent's own request enters its queue. -/
theorem wholeRequestIsReceived : Obligations.WholeRequestIsReceived := by
  intro s rq hcount hdest hnode hone hup hnone hroom words
  have hframe := isFrame_requestWords rq hcount
  have hnot : rq.dest ≠ broadcastAddress := hdest ▸ hone
  refine (run_frame (side := .c) hframe hup hnone .cReceiveFrameEnd closeCRx fun _ => rfl).trans (next_eq ?_)
  rw [closeCRx_of_pass (verdict_frame hframe), sortCRx, request_requestWords, if_neg hnot, if_pos ⟨hnode, hdest⟩,
    State.offerRequest, if_pos (show _ < Config.requestEntries by simpa using hroom)]
  simp [hnone, State.rx]

end Sys2Proof.Machine
end


section
/-! The parts of a step, for statements about every step: what the body of each request row can do, and the ways in which a request
that is taken ends (R168).  A property kept by each of them is kept by every step. -/

namespace Sys2Proof.Machine

set_option Elab.async false

/-! ## What the body of a request row can do -/

/-- What the request rows do to the part beyond answering. -/
inductive RowEffect where
  | reads | writesShadow | commits | acknowledges | clearsSticky | releases | clearsCounters | setsParameter
  | resetsPipeline | resetsExceptions | resetsAll
deriving DecidableEq

/-- The effect of the row of a request; every other command is given `reads`, and takes no request. -/
def rowEffect : Instr → RowEffect
  | .writeChannel _ | .writeStream _ | .writeClass _ | .copyActive _ => .writesShadow
  | .commit _ => .commits
  | .ackExceptions _ => .acknowledges
  | .clearSticky _ => .clearsSticky
  | .releaseHoldForward _ | .releaseHoldDiscard _ => .releases
  | .clearCounters _ => .clearsCounters
  | .setParameter _ => .setsParameter
  | .resetPipeline _ => .resetsPipeline
  | .resetExceptions _ => .resetsExceptions
  | .resetAll _ => .resetsAll
  | _ => .reads

/-- The states and answers that a body of the given effect can give. -/
inductive BodyEffect (rq : Request) (s : State) : RowEffect → State × Option Reply → Prop
  | answers (e : RowEffect) (r : Reply) : BodyEffect rq s e (s, some r)
  | writesShadow (b : Bank) (r : Reply) (hphase : s.phase = .idle) :
      BodyEffect rq s .writesShadow ({ s with shadow := b }, some r)
  | commits (hphase : s.phase = .idle) (hcode : rq.code = CommandCode.commit) :
      BodyEffect rq s .commits ({ s with phase := .compiling, deferredCommit := some rq, commitEnumerated := false }, none)
  | acknowledges {before rest : List ExceptionRecord} {k : ExceptionRecord} (r : Reply)
      (hqueue : s.exc.queue = before ++ k :: rest) :
      BodyEffect rq s .acknowledges ({ s with exc := s.exc.acknowledge rest }, some r)
  | clearsSticky (flags : Vector Sticky 128) (r : Reply) :
      BodyEffect rq s .clearsSticky ({ s with sticky := flags }, some r)
  | forwards {f g : CondFrame} {timer : Timer} (r : Reply) (hhold : s.hold = .held f timer) (hfree : s.outFree = true) :
      BodyEffect rq s .releases ({ s with hold := .empty }.enterOutput (.conditioned g), some r)
  | waits {f g : CondFrame} {timer : Timer} (hhold : s.hold = .held f timer) :
      BodyEffect rq s .releases ({ s with hold := .releasing g .request, deferredRelease := some rq }, none)
  | discards {f : CondFrame} {timer : Timer} (counters : HoldCounters) (r : Reply) (hhold : s.hold = .held f timer) :
      BodyEffect rq s .releases ({ s with hold := .empty, holdCounters := counters }, some r)
  | clearsCounters (g : CounterGroup) (r : Reply) : BodyEffect rq s .clearsCounters (clearGroup s g, some r)
  | setsParameter {k : Parameter} {v : Nat} {p : Params} (r : Reply) (hwrite : s.params.write k v = some p) :
      BodyEffect rq s .setsParameter ({ s with params := p }, some r)
  | resetsPipeline (r : Reply) : BodyEffect rq s .resetsPipeline (pipelineReset s, some r)
  | resetsExceptions (r : Reply) : BodyEffect rq s .resetsExceptions (exceptionReset s, some r)
  | resetsAll (r : Reply) : BodyEffect rq s .resetsAll (fullReset s, some r)

section
variable (rq : Request) (s : State)

theorem noOperands_effect {e : RowEffect} {run : State × Option Reply} (h : BodyEffect rq s e run) :
    BodyEffect rq s e (noOperands rq s run) := by
  unfold noOperands
  split
  · exact h
  · exact .answers ..

theorem unlessCommit_effect {e : RowEffect} {run : State × Option Reply} (h : s.phase = .idle → BodyEffect rq s e run) :
    BodyEffect rq s e (unlessCommit s run) := by
  unfold unlessCommit
  split
  · exact h ‹_›
  · exact .answers ..

theorem writeRecord_effect {α : Type} (n : Nat) (decode : List Word → Option α) (store : Bank → Fin n → α → Bank) :
    BodyEffect rq s .writesShadow (writeRecord n decode store rq s) := by
  refine unlessCommit_effect rq s fun hphase => ?_
  split
  · exact .answers ..
  · split
    · exact .answers ..
    · split
      · exact .answers ..
      · exact .writesShadow _ _ hphase

theorem readRecord_effect (n : Nat) (image : Bank → Fin n → List Word) :
    BodyEffect rq s .reads (readRecord n image rq s) := by
  unfold readRecord
  split
  · exact .answers ..
  · split
    · exact .answers ..
    · split
      · split <;> exact .answers ..
      · exact .answers ..

theorem copyActive_effect : BodyEffect rq s .writesShadow (copyActive rq s) :=
  unlessCommit_effect rq s fun hphase => noOperands_effect rq s (.writesShadow _ _ hphase)

theorem commit_effect (hcode : rq.code = CommandCode.commit) : BodyEffect rq s .commits (commit rq s) :=
  unlessCommit_effect rq s fun hphase => noOperands_effect rq s (.commits hphase hcode)

theorem readLayout_effect : BodyEffect rq s .reads (readLayout rq s) := by
  unfold readLayout
  split
  · exact .answers ..
  · split
    · exact .answers ..
    · split
      · exact .answers ..
      · split <;> exact .answers ..

theorem fetchExceptions_effect : BodyEffect rq s .reads (fetchExceptions rq s) := by
  unfold fetchExceptions
  split
  · split <;> exact .answers ..
  · exact .answers ..

theorem ackExceptions_effect : BodyEffect rq s .acknowledges (ackExceptions rq s) := by
  unfold ackExceptions
  split
  · split
    · exact .answers ..
    · next hrest =>
      obtain ⟨before, k, hqueue, -⟩ := recordsAfter_some hrest
      exact .acknowledges _ hqueue
  · exact .answers ..

theorem readSticky_effect : BodyEffect rq s .reads (readSticky rq s) := by
  unfold readSticky
  split
  · exact .answers ..
  · dsimp only
    split
    · exact .answers ..
    · split <;> exact .answers ..

theorem clearSticky_effect : BodyEffect rq s .clearsSticky (clearSticky rq s) := by
  unfold clearSticky
  split
  · split
    · split
      · exact .answers ..
      · exact .clearsSticky ..
    · exact .clearsSticky ..
    · exact .answers ..
  · exact .answers ..

theorem releaseForward_effect {f : CondFrame} {timer : Timer} (hhold : s.hold = .held f timer) :
    BodyEffect rq s .releases (releaseForward f rq s) := by
  unfold releaseForward releaseHeld
  by_cases hfree : s.outFree = true
  · simp only [hfree, if_true]
    exact .forwards _ hhold hfree
  · simp only [hfree]
    exact .waits hhold

theorem releaseHold_effect : BodyEffect rq s .releases (releaseHold rq s) := by
  unfold releaseHold
  split
  · split
    · next hhold => exact releaseForward_effect rq s hhold
    · exact .answers ..
  · split
    · next hhold => exact .discards _ _ hhold
    · exact .answers ..
  · exact .answers ..

theorem readCounters_effect : BodyEffect rq s .reads (readCounters rq s) := by
  unfold readCounters
  split <;> exact .answers ..

theorem clearCounters_effect : BodyEffect rq s .clearsCounters (clearCounters rq s) := by
  unfold clearCounters
  split
  · exact .answers ..
  · exact .clearsCounters ..

theorem setParameter_effect : BodyEffect rq s .setsParameter (setParameter rq s) := by
  unfold setParameter
  split
  · exact .answers ..
  · split
    · exact .answers ..
    · split
      · split
        · exact .answers ..
        · next hwrite => exact .setsParameter _ hwrite
      · exact .answers ..

theorem readParameter_effect : BodyEffect rq s .reads (readParameter rq s) := by
  unfold readParameter
  split
  · exact .answers ..
  · split
    · exact .answers ..
    · split <;> exact .answers ..

/-- What a row asks of a RESET that it takes. -/
theorem isReset_iff {other1 other2 : BitVec 8} {rq : Request} :
    isReset other1 other2 rq = true ↔
      rq.code = CommandCode.reset ∧ operandCode rq ≠ some other1 ∧ operandCode rq ≠ some other2 := by
  simp [isReset, and_assoc]

/-- A RESET that carries the scope of neither other row has the effects of its own scope, or none. -/
theorem reset_effect {e : RowEffect}
    (hpipeline : operandCode rq = some ScopeCode.pipeline → e = .resetsPipeline)
    (hexceptions : operandCode rq = some ScopeCode.exceptions → e = .resetsExceptions)
    (hall : operandCode rq = some ScopeCode.all → e = .resetsAll) : BodyEffect rq s e (reset rq s) := by
  unfold reset
  split
  · next h => exact hpipeline h ▸ .resetsPipeline _
  · next h => exact hexceptions h ▸ .resetsExceptions _
  · next h => exact hall h ▸ .resetsAll _
  · exact .answers ..

/-- The row of the scope PIPELINE takes no RESET of the other two scopes. -/
theorem resetPipeline_effect (hrow : isReset ScopeCode.exceptions ScopeCode.all rq = true) :
    BodyEffect rq s .resetsPipeline (reset rq s) := by
  obtain ⟨-, hexceptions, hall⟩ := isReset_iff.1 hrow
  exact reset_effect rq s (fun _ => rfl) (fun h => absurd h hexceptions) (fun h => absurd h hall)

theorem resetExceptions_effect (hrow : isReset ScopeCode.pipeline ScopeCode.all rq = true) :
    BodyEffect rq s .resetsExceptions (reset rq s) := by
  obtain ⟨-, hpipeline, hall⟩ := isReset_iff.1 hrow
  exact reset_effect rq s (fun h => absurd h hpipeline) (fun _ => rfl) (fun h => absurd h hall)

theorem resetAll_effect (hrow : isReset ScopeCode.pipeline ScopeCode.exceptions rq = true) :
    BodyEffect rq s .resetsAll (reset rq s) := by
  obtain ⟨-, hpipeline, hexceptions⟩ := isReset_iff.1 hrow
  exact reset_effect rq s (fun h => absurd h hpipeline) (fun h => absurd h hexceptions) (fun _ => rfl)

end

/-- Every request row is the take of a request that may be its own, by a body of the row's effect. -/
theorem exec_request : ∀ {i : Instr} {rq : Request}, i.request? = some rq → ∃ row body,
    (∀ s, exec i s = .next (agentTake row body rq s)) ∧ i.wellFormed = (requestFits rq && row rq) ∧
    (row rq = true → ∀ u, BodyEffect rq u (rowEffect i) (body rq u))
  | .identify rq, _, rfl => ⟨_, _, fun _ => rfl, rfl, fun _ u => noOperands_effect rq u (.answers ..)⟩
  | .readStatus rq, _, rfl => ⟨_, _, fun _ => rfl, rfl, fun _ u => noOperands_effect rq u (.answers ..)⟩
  | .writeChannel _, _, rfl => ⟨_, _, fun _ => rfl, rfl, fun _ _ => writeRecord_effect ..⟩
  | .readChannel _, _, rfl => ⟨_, _, fun _ => rfl, rfl, fun _ _ => readRecord_effect ..⟩
  | .writeStream _, _, rfl => ⟨_, _, fun _ => rfl, rfl, fun _ _ => writeRecord_effect ..⟩
  | .readStream _, _, rfl => ⟨_, _, fun _ => rfl, rfl, fun _ _ => readRecord_effect ..⟩
  | .writeClass _, _, rfl => ⟨_, _, fun _ => rfl, rfl, fun _ _ => writeRecord_effect ..⟩
  | .readClass _, _, rfl => ⟨_, _, fun _ => rfl, rfl, fun _ _ => readRecord_effect ..⟩
  | .copyActive rq, _, rfl => ⟨_, _, fun _ => rfl, rfl, fun _ => copyActive_effect rq⟩
  | .commit rq, _, rfl => ⟨_, _, fun _ => rfl, rfl, fun hrow u => commit_effect rq u (beq_iff_eq.1 hrow)⟩
  | .readLayout rq, _, rfl => ⟨_, _, fun _ => rfl, rfl, fun _ => readLayout_effect rq⟩
  | .fetchExceptions rq, _, rfl => ⟨_, _, fun _ => rfl, rfl, fun _ => fetchExceptions_effect rq⟩
  | .ackExceptions rq, _, rfl => ⟨_, _, fun _ => rfl, rfl, fun _ => ackExceptions_effect rq⟩
  | .readSticky rq, _, rfl => ⟨_, _, fun _ => rfl, rfl, fun _ => readSticky_effect rq⟩
  | .clearSticky rq, _, rfl => ⟨_, _, fun _ => rfl, rfl, fun _ => clearSticky_effect rq⟩
  | .releaseHoldForward rq, _, rfl => ⟨_, _, fun _ => rfl, rfl, fun _ => releaseHold_effect rq⟩
  | .releaseHoldDiscard rq, _, rfl => ⟨_, _, fun _ => rfl, rfl, fun _ => releaseHold_effect rq⟩
  | .readCounters rq, _, rfl => ⟨_, _, fun _ => rfl, rfl, fun _ => readCounters_effect rq⟩
  | .clearCounters rq, _, rfl => ⟨_, _, fun _ => rfl, rfl, fun _ => clearCounters_effect rq⟩
  | .setParameter rq, _, rfl => ⟨_, _, fun _ => rfl, rfl, fun _ => setParameter_effect rq⟩
  | .readParameter rq, _, rfl => ⟨_, _, fun _ => rfl, rfl, fun _ => readParameter_effect rq⟩
  | .resetPipeline rq, _, rfl => ⟨_, _, fun _ => rfl, rfl, fun hrow u => resetPipeline_effect rq u hrow⟩
  | .resetExceptions rq, _, rfl => ⟨_, _, fun _ => rfl, rfl, fun hrow u => resetExceptions_effect rq u hrow⟩
  | .resetAll rq, _, rfl => ⟨_, _, fun _ => rfl, rfl, fun hrow u => resetAll_effect rq u hrow⟩
  | .undefinedCommand _, _, rfl => ⟨_, _, fun _ => rfl, rfl, fun _ _ => .answers ..⟩

/-! ## The ways in which a request that is taken ends -/

/-- A property kept by the removal of the request, by a replay, and by the answers and deferments that the row's effect allows is
kept by the row. -/
theorem agentTake_keeps {P : State → Prop} {row : Request → Bool} {body : CommandBody} {rq : Request} {e : RowEffect}
    (heffect : row rq = true → ∀ u, BodyEffect rq u e (body rq u))
    (htaken : ∀ s rest, P s → s.requests = rq :: rest → P { s with requests := rest }.clearCrossed)
    (hreplayed : ∀ s (r : Response), P s → s.responses.length < 2 →
      P { s with responses := s.responses ++ [.response r], replays := satInc s.replays })
    (hanswered : ∀ s t r, P s → s.answers = [] → s.responses.length < 2 → BodyEffect rq s e (t, some r) → P (t.answer rq r))
    (hdeferred : ∀ s t, P s → s.answers = [] → BodyEffect rq s e (t, none) → P t)
    {s : State} (h : P s) : P (agentTake row body rq s) := by
  rcases agentTake_cases s row body rq with heq | ⟨rest, hfront, hrow, hroom, hanswers, heq⟩
  · exact heq.symm ▸ h
  · rw [heq]
    have htake := htaken s rest h hfront
    replace hanswers : { s with requests := rest }.clearCrossed.answers = [] := hanswers
    replace hroom : { s with requests := rest }.clearCrossed.responses.length < 2 := hroom
    generalize { s with requests := rest }.clearCrossed = u at htake hanswers hroom ⊢
    rcases execute_cases u body rq with
      ⟨-, hx⟩ | ⟨k, -, -, hx⟩ | ⟨-, hx⟩ | ⟨t, r, hb, hx⟩ | ⟨t, hb, hx⟩ <;> rw [hx]
    · exact hanswered _ _ _ htake hanswers hroom (.answers ..)
    · rw [State.place_ready _ _ hanswers hroom]
      exact hreplayed _ _ htake hroom
    · exact hanswered _ _ _ htake hanswers hroom (.answers ..)
    · exact hanswered _ _ _ htake hanswers hroom (hb ▸ heffect hrow _)
    · exact hdeferred _ _ htake hanswers (hb ▸ heffect hrow _)

/-- A property that does not speak of the queue of events, and that one millisecond, every request row and every other command
keep, is kept by every step. -/
theorem step_keeps {P : State → Prop} (hpending : ∀ s rest, P s → P { s with pending := rest })
    (htick : ∀ s, P s → P (tick s)) (hexec : ∀ i s t, P s → exec i s = .next t → P t)
    {s t : State} (h : P s) (hstep : step s = .next t) : P t := by
  unfold step at hstep
  split at hstep
  · exact Host.Outcome.next.inj hstep ▸ htick s h
  · exact hexec _ _ _ (hpending s _ h) hstep

end Sys2Proof.Machine
end


section
/-! Proof that every step keeps the bounds and the honest credits (R57, R127, R151, R152, R154, R155, R158, R159, R163, R167, R170,
R172): one lemma for each shared operation, one for each command. -/

namespace Sys2Proof.Machine

set_option Elab.async false

/-- Everything within its capacity, and the credits honest. -/
structure Bounded (s : State) : Prop extends WithinCapacity s, CreditsHonest s

theorem length_cacheInsert_le {cache : List CacheEntry} (h : cache.length ≤ 4) (e : CacheEntry) :
    (cacheInsert cache e).length ≤ 4 := by
  have hkept := List.length_filter_le (fun k : CacheEntry => k.request.tag != e.request.tag) cache
  simp only [cacheInsert, Config.cacheEntries, List.length_append, List.length_singleton]
  split
  · omega
  · rw [List.length_tail]; omega

namespace Bounded
variable {s : State}

/-! ## Shared operations -/

theorem setRx (h : Bounded s) (side : Side) (r : RxLane) : Bounded (s.setRx side r) := by
  cases side <;> exact { h with }

theorem countRx (h : Bounded s) (side : Side) (f : RxCounters → RxCounters) : Bounded (s.countRx side f) := by
  cases side <;> exact { h with }

theorem closeMalformed (h : Bounded s) (side : Side) : Bounded (s.closeMalformed side) := by
  rcases s.closeMalformed_cases side with ⟨-, heq⟩ | ⟨b, -, heq⟩ <;> rw [heq]
  · exact h
  · exact (h.setRx ..).countRx ..

theorem onValidSymbol (h : Bounded s) (side : Side) {act : State → State} (hact : ∀ u, Bounded u → Bounded (act u)) :
    Bounded (s.onValidSymbol side act) := by
  unfold State.onValidSymbol
  split
  · exact h
  · exact h.setRx ..
  · exact hact _ (h.setRx ..)

theorem clearCredits (h : Bounded s) (side : Side) : Bounded (s.clearCredits side) := by
  cases side
  · exact { h with
      room := (Nat.zero_add _).trans_le h.ingress
      data := Nat.zero_le _, control := Nat.zero_le _, restart := Nat.zero_le _ }
  · exact { h with dataCredits := Nat.zero_le _, controlCredits := Nat.zero_le _ }

theorem dropPartial (h : Bounded s) (side : Side) : Bounded (s.dropPartial side) := by
  rcases s.dropPartial_cases side with ⟨-, heq⟩ | ⟨b, -, heq⟩ <;> rw [heq]
  · exact h
  · exact (h.setRx ..).countRx ..

theorem laneDown (h : Bounded s) (side : Side) : Bounded (s.laneDown side) :=
  (((h.dropPartial side).countRx ..).setRx ..).clearCredits side

theorem creditRestart (h : Bounded s) : Bounded s.creditRestart := by
  obtain ⟨hdata, hcontrol, hreset⟩ := s.pendingGrants_creditRestart
  exact { h with
    room := by have := h.ingress; simp only [State.creditRestart, State.ingressFree, Config.ingressEntries]; omega
    data := hdata.trans_le (Nat.sub_le ..)
    control := hcontrol.trans_le (Nat.sub_le ..)
    restart := hreset.le }

/-- A grant of a data credit asks for a free ingress entry that no outstanding credit counts. -/
theorem grantData (h : Bounded s) (hroom : s.outstanding + s.ingress.length < 8) : Bounded s.grantData := by
  rcases s.grantData_cases with ⟨-, hpending, heq⟩ | ⟨-, heq⟩ <;> rw [heq]
  · exact { h with
      room := by have : s.outstanding + 1 + s.ingress.length ≤ 8 := by omega
                 exact this
      data := by simpa [State.pendingGrants, List.filter_append] using hpending
      control := by simpa [State.pendingGrants, List.filter_append] using h.control
      restart := by simpa [State.pendingGrants, List.filter_append] using h.restart }
  · exact h

theorem grantControl (h : Bounded s) : Bounded s.grantControl := by
  rcases s.grantControl_cases with ⟨-, hpending, heq⟩ | ⟨-, heq⟩ <;> rw [heq]
  · exact { h with
      data := by simpa [State.pendingGrants, List.filter_append] using h.data
      control := by simpa [State.pendingGrants, List.filter_append] using hpending
      restart := by simpa [State.pendingGrants, List.filter_append] using h.restart }
  · exact h

/-- An ingress entry that is freed makes the room that its grant asks for. -/
theorem freeIngress (h : Bounded s) {f : Frame} {rest : List Frame} (hfront : s.ingress = f :: rest) : Bounded s.freeIngress := by
  have hlength : s.ingress.tail.length + 1 = s.ingress.length := by rw [hfront]; rfl
  have hroom := h.room
  have hpopped : Bounded { s with ingress := s.ingress.tail } := { h with
    ingress := by have := h.ingress; show s.ingress.tail.length ≤ 8; omega
    room := by show s.outstanding + s.ingress.tail.length ≤ 8; omega }
  exact hpopped.grantData (by show s.outstanding + s.ingress.tail.length < 8; omega)

theorem enterOutput (h : Bounded s) (hfree : s.outFree = true) (f : OutFrame) : Bounded (s.enterOutput f) := by
  have : s.outQueue.length + s.outReserved < 4 := of_decide_eq_true hfree
  exact { h with
    output := by show (s.outQueue ++ [f]).length + s.outReserved ≤ 4; simp only [List.length_append, List.length_singleton]; omega }

theorem offerForward (h : Bounded s) (f : Frame) : Bounded (s.offerForward f) := by
  rcases s.offerForward_cases f with ⟨hroom, heq⟩ | ⟨-, heq⟩ <;> rw [heq]
  · exact { h with forward := by simpa using hroom }
  · exact { h with }

theorem offerRequest (h : Bounded s) (rq : Request) : Bounded (s.offerRequest rq) := by
  rcases s.offerRequest_cases rq with ⟨hroom, heq⟩ | ⟨-, heq⟩ <;> rw [heq]
  · exact { h with requests := by simpa using hroom }
  · exact { h with }

theorem handRecord (h : Bounded s) (r : ExceptionRecord) : Bounded (s.handRecord r) := { h with
  exceptions := by
    rcases s.exc.take_cases s.params r with ⟨hroom, hqueue, -⟩ | ⟨-, heq⟩
    · simpa [hqueue] using hroom
    · simpa [heq] using h.exceptions }

theorem place (h : Bounded s) (f : AgentFrame) : Bounded (s.place f) := by
  rcases s.place_cases f with ⟨-, hroom, heq⟩ | ⟨-, heq⟩ <;> rw [heq]
  · exact { h with responses := by simpa using hroom }
  · exact { h with }

theorem answerAs (h : Bounded s) (crossed : Bool) (rq : Request) (r : Reply) : Bounded (s.answerAs crossed rq r) := by
  have hplaced := h.place (.response (s.respond rq r))
  rw [State.answerAs_eq]
  exact { h with
    responses := hplaced.responses
    cache := by
      dsimp only
      split
      · exact length_cacheInsert_le h.cache _
      · exact h.cache }

theorem endCommit (h : Bounded s) (r : Reply) : Bounded (s.endCommit r) := by
  rcases s.endCommit_cases r with ⟨-, heq⟩ | ⟨rq, -, heq⟩ <;> rw [heq]
  · exact h
  · have hended : Bounded { s with deferredCommit := none, commitEnumerated := false } := { h with }
    exact hended.answerAs ..

theorem endRelease (h : Bounded s) (r : Reply) : Bounded (s.endRelease r) := by
  rcases s.endRelease_cases r with ⟨-, heq⟩ | ⟨rq, -, heq⟩ <;> rw [heq]
  · exact h
  · have hended : Bounded { s with deferredRelease := none } := { h with }
    exact hended.answerAs ..

theorem placeReport (h : Bounded s) : Bounded s.placeReport := by
  unfold State.placeReport
  split
  · exact { h with }
  · exact h.place _

/-! ## Receive lanes -/

theorem symbolLock (h : Bounded s) (side : Side) : Bounded (symbolLock side s) := by
  unfold Machine.symbolLock
  split
  · exact h.setRx ..
  · exact h
  · exact h

theorem lossOfLock (h : Bounded s) (side : Side) : Bounded (lossOfLock side s) := by
  unfold Machine.lossOfLock
  split
  · exact h
  · exact (h.setRx ..).clearCredits side
  · exact h.laneDown side

theorem laneUp (h : Bounded s) (side : Side) : Bounded (laneUp side s) := by
  cases side
  · exact (h.setRx ..).creditRestart
  · exact h.setRx .c _

theorem idleSymbol (h : Bounded s) (side : Side) : Bounded (idleSymbol side s) := by
  unfold Machine.idleSymbol
  split
  · exact h
  · dsimp only
    split
    · exact h.setRx ..
    · exact (h.setRx ..).laneUp side
  · exact (h.setRx ..).closeMalformed side

theorem invalidSymbol (h : Bounded s) (side : Side) : Bounded (invalidSymbol side s) := by
  unfold Machine.invalidSymbol
  split
  · exact h
  · exact h.setRx ..
  · dsimp only
    split
    · exact h.setRx ..
    · exact (h.setRx ..).laneDown side

theorem startSymbol (h : Bounded s) (side : Side) : Bounded (startSymbol side s) :=
  h.onValidSymbol side fun _ hu => (hu.closeMalformed side).setRx ..

theorem dataWordSymbol (h : Bounded s) (side : Side) (w : Word) : Bounded (dataWordSymbol side w s) := by
  refine h.onValidSymbol side fun u hu => ?_
  split
  · exact hu.setRx ..
  · exact hu.countRx ..

theorem frameEnd (h : Bounded s) (side : Side) {close : Assembly → State → State}
    (hclose : ∀ b u, Bounded u → Bounded (close b u)) : Bounded (frameEnd side close s) := by
  refine h.onValidSymbol side fun u hu => ?_
  split
  · exact hclose _ _ (hu.setRx ..)
  · exact hu.countRx ..

theorem creditSymbol (h : Bounded s) (side : Side) {act : State → State} (hact : ∀ u, Bounded u → Bounded (act u)) :
    Bounded (creditSymbol side act s) := by
  refine h.onValidSymbol side fun u hu => ?_
  cases side
  · exact hu.closeMalformed .a
  · exact hact _ (hu.closeMalformed .c)

theorem creditDataReceived (h : Bounded s) (side : Side) : Bounded (creditDataReceived side s) :=
  h.creditSymbol side fun _ hu => { hu with dataCredits := Nat.min_le_left .. }

theorem creditControlReceived (h : Bounded s) (side : Side) : Bounded (creditControlReceived side s) :=
  h.creditSymbol side fun _ hu => { hu with controlCredits := Nat.min_le_left .. }

theorem creditResetReceived (h : Bounded s) (side : Side) : Bounded (creditResetReceived side s) :=
  h.creditSymbol side fun _ hu => { hu with dataCredits := Nat.zero_le _, controlCredits := Nat.zero_le _ }

/-- A good frame on A-receive; a DATA frame asks for a free entry that no outstanding credit counts, or finds the buffer full. -/
theorem sortARx (h : Bounded s) (k : FrameKind) (f : Frame)
    (hdata : k = .data → s.ingress.length < 8 → s.outstanding + s.ingress.length < 8) : Bounded (sortARx k f s) := by
  cases k <;> simp only [Machine.sortARx]
  case data =>
    split
    · next hfree =>
      have hroom := hdata rfl hfree
      exact { h with
        ingress := by simpa using hfree
        room := by show s.outstanding + (s.ingress ++ [f]).length ≤ 8; simp only [List.length_append, List.length_singleton]; omega }
    · exact { h with }
  case response | notice | report =>
    split
    · next hfree => exact { h with transit := by simpa using hfree }
    · exact { h with }
  case request | enumerate => exact h.countRx ..

/-- A frame whose close lowered the outstanding count leaves the room that a DATA frame, or the grant that answers it, asks for. -/
theorem closeARx (h : Bounded s) (b : Assembly) : Bounded (closeARx b s) := by
  have hroom := h.room
  by_cases hlowers : (b.shownKind == some .data && decide (0 < s.outstanding)) = true
  · have hpositive : 0 < s.outstanding := by simp only [Bool.and_eq_true, decide_eq_true_eq] at hlowers; exact hlowers.2
    have hlowered : Bounded { s with outstanding := s.outstanding - 1 } := { h with
      room := by show s.outstanding - 1 + s.ingress.length ≤ 8; omega }
    have hfree : s.outstanding - 1 + s.ingress.length < 8 := by omega
    simp only [Machine.closeARx, hlowers, if_true]
    split
    · exact hlowered.sortARx _ _ fun _ _ => hfree
    · exact (hlowered.countRx ..).grantData hfree
  · simp only [Machine.closeARx, hlowers, Bool.false_eq_true, if_false]
    split
    · next hpass =>
      refine h.sortARx _ _ fun hk hfree => ?_
      have hnone : s.outstanding = 0 := by simpa [shownKind_of_pass hpass, hk] using hlowers
      omega
    · exact h.countRx ..

theorem enumerated (h : Bounded s) (carried : Address) : Bounded (enumerated carried s) := by
  have hnamed : Bounded { s with
      nodeAddress := takenAddress carried, cache := [], commitEnumerated := s.deferredCommit.isSome } := { h with
    cache := Nat.zero_le _
    address := by
      show takenAddress carried ≠ 63
      unfold takenAddress
      split
      · decide
      · assumption }
  unfold Machine.enumerated
  dsimp only
  split
  · exact hnamed.offerForward _
  · exact hnamed.placeReport.offerForward _

theorem sortCRx (h : Bounded s) (k : FrameKind) (f : Frame) : Bounded (sortCRx k f s) := by
  cases k <;> simp only [Machine.sortCRx]
  case request =>
    split
    · exact (h.offerRequest _).offerForward _
    · split
      · exact h.offerRequest _
      · exact h.offerForward _
  case enumerate => exact h.enumerated _
  case data | response | notice | report => exact h.countRx ..

theorem closeCRx (h : Bounded s) (b : Assembly) : Bounded (closeCRx b s) := by
  unfold Machine.closeCRx
  split
  · exact h.sortCRx ..
  · exact h.countRx ..

theorem enumerate (h : Bounded s) (a : Address) : Bounded (enumerate a s) := by
  unfold Machine.enumerate
  split
  · exact (h.setRx .c _).enumerated a
  · exact h

/-! ## Transmit lanes -/

theorem egressStart (h : Bounded s) : Bounded (egressStart s) := by
  have hcontrol := h.controlCredits
  have hdata := h.dataCredits
  unfold Machine.egressStart
  split
  · exact h
  · split
    · unfold startResponse
      split
      · next hfront => exact { h with
          responses := by have := h.responses; rw [hfront] at this; exact (Nat.le_succ _).trans this
          controlCredits := (Nat.sub_le ..).trans hcontrol }
      · exact h
    · unfold startNotice
      split
      · exact { h with controlCredits := (Nat.sub_le ..).trans hcontrol }
      · exact h
    · unfold startTransit
      split
      · next f rest hfront =>
        have hstarted : Bounded { s.sendC f.words with transit := rest, controlCredits := s.controlCredits - 1 } := { h with
          transit := by have := h.transit; rw [hfront] at this; exact (Nat.le_succ _).trans this
          controlCredits := (Nat.sub_le ..).trans hcontrol }
        exact hstarted.grantControl
      · exact h
    · unfold startOutput
      split
      · next rest hfront => exact { h with
          output := by
            have := h.output; rw [hfront] at this
            show rest.length + s.outReserved ≤ 4
            simp only [List.length_cons] at this; omega
          dataCredits := (Nat.sub_le ..).trans hdata }
      · exact h
    · exact h

theorem transmitFrameEnd (h : Bounded s) (side : Side) : Bounded (transmitFrameEnd side s) := by
  cases side <;> exact { h with }

theorem aTransmitCreditSymbol (h : Bounded s) : Bounded (aTransmitCreditSymbol s) := by
  unfold Machine.aTransmitCreditSymbol
  split
  · next g rest _ hgrants =>
    have hle (k : CreditSymbol) : (rest.filter (· == k)).length ≤ s.pendingGrants k := by
      rw [State.pendingGrants, hgrants]
      exact ((List.sublist_cons_self g rest).filter _).length_le
    exact { h with
      data := (hle _).trans h.data, control := (hle _).trans h.control, restart := (hle _).trans h.restart }
  · exact h

theorem forwardFifoStart (h : Bounded s) : Bounded (forwardFifoStart s) := by
  unfold Machine.forwardFifoStart
  split
  · next hfront => exact { h with
      forward := by have := h.forward; rw [hfront] at this; exact (Nat.le_succ _).trans this }
  · exact h

theorem answerListEntry (h : Bounded s) : Bounded (answerListEntry s) := by
  unfold Machine.answerListEntry
  split
  · split
    · next hroom => exact { h with responses := by simpa using hroom }
    · exact h
  · exact h

/-! ## The conversion engine -/

/-- A frame that is passed on takes the output entry that the take found free. -/
theorem passFrame (h : Bounded s) {f : Frame} {rest : List Frame} (hfront : s.ingress = f :: rest) (hfree : s.outFree = true)
    (g : OutFrame) : Bounded (s.freeIngress.enterOutput g) := by
  refine (h.freeIngress hfront).enterOutput ?_ g
  rcases s.freeIngress_cases with ⟨-, -, heq⟩ | ⟨-, heq⟩ <;> rw [heq] <;> exact hfree

theorem setRuntime (h : Bounded s) (i : Fin 8) (r : StreamRuntime) : Bounded (s.setRuntime i r) := { h with }

theorem countStream (h : Bounded s) (i : Fin 8) (f : StreamCounters → StreamCounters) : Bounded (s.countStream i f) := { h with }

theorem gapCheck (h : Bounded s) (i : Fin 8) (f : Frame) : Bounded (gapCheck i f s) := by
  unfold Machine.gapCheck
  dsimp only
  split
  · exact (h.setRuntime ..).countStream ..
  · exact h.setRuntime ..

theorem lengthCheck (h : Bounded s) (i : Fin 8) (f : Frame) : Bounded (lengthCheck i f s) := by
  unfold Machine.lengthCheck
  split
  · dsimp only
    split
    · exact h
    · exact (h.handRecord _).setRuntime ..
  · exact h

end Bounded

/-- The two checks of a take change the runtime state, the exception unit and the engine counters alone. -/
theorem takeChecks_eq (i : Fin 8) (f : Frame) (s : State) :
    lengthCheck i f (gapCheck i f s) = { s with
      runtime := (lengthCheck i f (gapCheck i f s)).runtime
      exc := (lengthCheck i f (gapCheck i f s)).exc
      engineCounters := (lengthCheck i f (gapCheck i f s)).engineCounters } := by
  have hgap : gapCheck i f s = { s with
      runtime := (gapCheck i f s).runtime, engineCounters := (gapCheck i f s).engineCounters } := by
    simp only [gapCheck]; split <;> rfl
  generalize gapCheck i f s = u at hgap ⊢
  rw [hgap, lengthCheck]
  split
  · dsimp only; split <;> rfl
  · rfl

namespace Bounded
variable {s : State}

theorem beginConversion (h : Bounded s) (hfree : s.outFree = true) (i : Fin 8) (f : Frame) :
    Bounded (beginConversion i f s) := { (h.gapCheck i f).lengthCheck i f with
  output := by
    have hroom : s.outQueue.length + s.outReserved < 4 := of_decide_eq_true hfree
    show (Machine.lengthCheck i f (Machine.gapCheck i f s)).outQueue.length + 1 ≤ 4
    rw [takeChecks_eq]; dsimp only; omega }

theorem engineTake (h : Bounded s) : Bounded (engineTake s) := by
  unfold Machine.engineTake
  split
  · exact h
  · next f rest hfront =>
    split
    · next hallowed =>
      have hfree : s.outFree = true := by
        simp only [takeAllowed, Bool.and_eq_true] at hallowed; exact hallowed.1.1.2
      split
      · exact { h.passFrame hfront hfree (.passed f) with }
      · split
        · unfold settleUnmatched
          split
          · exact { h.passFrame hfront hfree (.passed f) with }
          · exact { h.freeIngress hfront with }
        · exact h.beginConversion hfree ..
    · exact h

theorem takeCondition (h : Bounded s) (c : Conversion) (inputSeq : Seq) (owner : Fin 128) (stored : List Word) (k : Condition) :
    Bounded (takeCondition c inputSeq owner stored k s) := by
  unfold Machine.takeCondition
  dsimp only
  split
  · exact { h.handRecord _ with }
  · exact { h with }

theorem slotConversion (h : Bounded s) : Bounded (slotConversion s) := by
  unfold Machine.slotConversion
  split
  · next c f rest hengine _ =>
    split
    · exact h
    · have hsettled (c' : Conversion) : Bounded { s with engine := .converting c' } := { h with
        output := by have := h.output; simp only [State.outReserved, hengine] at this; exact this }
      dsimp only
      split
      · exact hsettled _
      · exact (hsettled _).takeCondition ..
  · exact h

/-- The completed frame takes the reserved entry, or the hold. -/
theorem sendCompleted (h : Bounded s) {c c' : Conversion} (hengine : s.engine = .converting c') (g : CondFrame) :
    Bounded { sendCompleted c g s with engine := .idle } := by
  have hreserved : s.outQueue.length + 1 ≤ 4 := by
    have := h.output; simpa only [State.outReserved, hengine] using this
  have hentered (g' : CondFrame) : Bounded { s.enterOutput (.conditioned g') with engine := .idle } := { h with
    output := by show (s.outQueue ++ [_]).length ≤ 4; simpa using hreserved }
  have hrefused : Bounded { refuseDivert c g s with engine := .idle } := { (hentered { g with refused := true }).handRecord _ with }
  unfold Machine.sendCompleted
  split
  · split
    · exact { h with output := (Nat.le_succ _).trans hreserved }
    · exact hrefused
    · exact hrefused
  · exact hentered g

end Bounded

/-- Freeing an ingress entry leaves the engine as it is. -/
theorem State.freeIngress_engine (s : State) : s.freeIngress.engine = s.engine := by
  rcases s.freeIngress_cases with ⟨-, -, heq⟩ | ⟨-, heq⟩ <;> rw [heq]

namespace Bounded
variable {s : State}

theorem conversionCompletion (h : Bounded s) : Bounded (conversionCompletion s) := by
  unfold Machine.conversionCompletion
  split
  · next c f rest hengine hfront =>
    split
    · exact h
    · dsimp only
      exact (((h.setRuntime ..).countStream ..).freeIngress hfront).sendCompleted
        ((State.freeIngress_engine _).trans hengine) _
  · exact h

/-! ## The hold and the timers -/

theorem releaseHeld (h : Bounded s) (f : CondFrame) (reason : ReleaseReason) : Bounded (releaseHeld f reason s) := by
  unfold Machine.releaseHeld
  split
  · next hfree =>
    have hemptied : Bounded { s with hold := .empty } := { h with }
    exact hemptied.enterOutput hfree _
  · exact { h with }

theorem holdTimerExpiry (h : Bounded s) : Bounded (holdTimerExpiry s) := by
  unfold Machine.holdTimerExpiry
  split
  · have hcounted (k : HoldCounters) : Bounded { s with holdCounters := k } := { h with }
    exact (hcounted _).releaseHeld ..
  · exact h
  · exact h
  · exact h

theorem releaseEntry (h : Bounded s) : Bounded (releaseEntry s) := by
  unfold Machine.releaseEntry
  split
  · next f _ _ =>
    split
    · next hfree =>
      have hemptied : Bounded { s with hold := .empty } := { h with }
      have hentered := hemptied.enterOutput hfree (.conditioned f)
      dsimp only
      split
      · exact hentered.endRelease _
      · exact hentered
    · exact h
  · exact h
  · exact h

/-- An exception unit with the records of before. -/
theorem setExc (h : Bounded s) {x : ExceptionUnit} (hqueue : x.queue = s.exc.queue) : Bounded { s with exc := x } := { h with
  exceptions := by show x.queue.length ≤ 32; rw [hqueue]; exact h.exceptions }

end Bounded

theorem ExceptionUnit.coalescingExpiry_queue (x : ExceptionUnit) : x.coalescingExpiry.queue = x.queue := by
  unfold ExceptionUnit.coalescingExpiry
  split <;> rfl

theorem ExceptionUnit.reminderExpiry_queue (x : ExceptionUnit) : x.reminderExpiry.queue = x.queue := by
  unfold ExceptionUnit.reminderExpiry
  split
  · split
    · dsimp only
      split <;> rfl
    · rfl
  · rfl

namespace Bounded
variable {s : State}

theorem coalescingTimerExpiry (h : Bounded s) : Bounded (coalescingTimerExpiry s) := h.setExc s.exc.coalescingExpiry_queue

theorem reminderTimerExpiry (h : Bounded s) : Bounded (reminderTimerExpiry s) := h.setExc s.exc.reminderExpiry_queue

theorem tick (h : Bounded s) : Bounded (tick s) := by
  have hreminder : Bounded (tickReminder s) := by
    unfold tickReminder
    split
    · exact h.reminderTimerExpiry
    · exact h.setExc rfl
  have hcoalescing : Bounded (tickCoalescing (tickReminder s)) := by
    unfold tickCoalescing
    split
    · exact hreminder.coalescingTimerExpiry
    · exact hreminder.setExc rfl
  unfold Machine.tick tickHold
  split
  · split
    · exact hcoalescing.holdTimerExpiry
    · exact { hcoalescing with }
  · exact hcoalescing
  · exact hcoalescing

/-! ## Commit and resets -/

theorem validationFailure (h : Bounded s) : Bounded (validationFailure s) := by
  unfold Machine.validationFailure
  split
  · have hended : Bounded { s with phase := .idle, pendingLayouts := none } := { h with }
    exact hended.endCommit _
  · exact h

theorem compilationEnd (h : Bounded s) : Bounded (compilationEnd s) := by
  unfold Machine.compilationEnd
  split
  · exact { h with }
  · exact h

theorem swap (h : Bounded s) : Bounded (swap s) := by
  unfold Machine.swap
  split
  · next layouts _ _ _ =>
    have hswapped : Bounded { s with
        active := s.shadow, layouts := layouts, pendingLayouts := none, generation := nextGeneration s.generation
        runtime := runtimeAfterSwap s.active s.shadow s.runtime, phase := .idle } := { h with }
    exact hswapped.endCommit _
  · exact h

theorem abandonCommit (h : Bounded s) : Bounded (abandonCommit s) := by
  have hended : Bounded { s with phase := .idle, pendingLayouts := none } := { h with }
  unfold Machine.abandonCommit
  split
  · exact h
  · exact hended.endCommit _
  · exact hended.endCommit _

theorem dropHold (h : Bounded s) : Bounded (dropHold s) := by
  have hdropped (k : HoldCounters) : Bounded { s with hold := .empty, holdCounters := k } := { h with }
  unfold Machine.dropHold
  split
  · exact h
  · exact (hdropped _).endRelease _
  · exact (hdropped _).endRelease _

theorem emptyDataPath (h : Bounded s) : Bounded (emptyDataPath s) := by
  have hemptied : Bounded { s with engine := .idle, ingress := [], outQueue := [] } := { h with
    ingress := Nat.zero_le _
    output := Nat.zero_le _
    room := (Nat.le_add_right ..).trans h.room }
  unfold Machine.emptyDataPath
  dsimp only
  split
  · exact hemptied.creditRestart
  · exact hemptied

theorem pipelineReset (h : Bounded s) : Bounded (pipelineReset s) := h.abandonCommit.dropHold.emptyDataPath

theorem exceptionReset (h : Bounded s) : Bounded (exceptionReset s) := { h with exceptions := Nat.zero_le _ }

theorem fullReset (h : Bounded s) : Bounded (fullReset s) := { h.pipelineReset.exceptionReset with }

/-! ## The agent -/

/-- What a command's body leaves is bounded, whether it answers or defers. -/
theorem bodyEffect (h : Bounded s) {rq : Request} {e : RowEffect} {t : State} {r : Option Reply}
    (heffect : BodyEffect rq s e (t, r)) : Bounded t := by
  cases heffect with
  | answers => exact h
  | writesShadow | commits | clearsSticky | waits | discards | setsParameter => exact { h with }
  | acknowledges _ hqueue =>
    refine { h with exceptions := ?_ }
    have := h.exceptions
    rw [hqueue, List.length_append, List.length_cons] at this
    unfold ExceptionUnit.acknowledge
    dsimp only
    split
    · exact Nat.zero_le _
    · dsimp only; omega
  | forwards _ _ hfree =>
    have hemptied : Bounded { s with hold := .empty } := { h with }
    exact hemptied.enterOutput hfree _
  | clearsCounters g => cases g <;> exact { h with }
  | resetsPipeline => exact h.pipelineReset
  | resetsExceptions => exact h.exceptionReset
  | resetsAll => exact h.fullReset

theorem agentTake (h : Bounded s) {row : Request → Bool} {body : CommandBody} {rq : Request} {e : RowEffect}
    (heffect : row rq = true → ∀ u, BodyEffect rq u e (body rq u)) : Bounded (agentTake row body rq s) := by
  refine agentTake_keeps heffect (fun u rest hu hfront => ?_) (fun u _ hu hroom => ?_) (fun _ _ _ hu _ _ hb => ?_)
    (fun _ _ hu _ hb => hu.bodyEffect hb) h
  · exact { hu with
      requests := by have := hu.requests; rw [hfront] at this; exact (Nat.le_succ _).trans this
      cache := (List.length_filter_le ..).trans hu.cache }
  · exact { hu with responses := by simpa using hroom }
  · exact (hu.bodyEffect hb).answerAs ..

theorem reset : Bounded State.reset where
  ingress := by decide
  transit := by decide
  forward := by decide
  output := by decide
  requests := by decide
  responses := by decide
  cache := by decide
  exceptions := by decide
  dataCredits := by decide
  controlCredits := by decide
  address := by decide
  room := by decide
  data := by decide
  control := by decide
  restart := by decide

theorem exec (h : Bounded s) {i : Instr} {t : State} (hexec : exec i s = .next t) : Bounded t := by
  cases hrq : i.request? with
  | some rq =>
    obtain ⟨row, body, htake, -, heffect⟩ := exec_request hrq
    exact Host.Outcome.next.inj ((htake s).symm.trans hexec) ▸ h.agentTake heffect
  | none =>
    cases i with
    | deviceReset => cases hexec; exact { reset with }
    | symbolLock lane => cases hexec; exact h.symbolLock lane
    | lossOfLock lane => cases hexec; exact h.lossOfLock lane
    | idleSymbol lane => cases hexec; exact h.idleSymbol lane
    | invalidSymbol lane => cases hexec; exact h.invalidSymbol lane
    | startSymbol lane => cases hexec; exact h.startSymbol lane
    | dataWordSymbol lane w => cases hexec; exact h.dataWordSymbol lane w
    | aReceiveFrameEnd => cases hexec; exact h.frameEnd .a fun b _ hu => hu.closeARx b
    | cReceiveFrameEnd => cases hexec; exact h.frameEnd .c fun b _ hu => hu.closeCRx b
    | enumerate a => cases hexec; exact h.enumerate a
    | creditDataReceived lane => cases hexec; exact h.creditDataReceived lane
    | creditControlReceived lane => cases hexec; exact h.creditControlReceived lane
    | creditResetReceived lane => cases hexec; exact h.creditResetReceived lane
    | egressStart => cases hexec; exact h.egressStart
    | transmitFrameEnd lane => cases hexec; exact h.transmitFrameEnd lane
    | aTransmitCreditSymbol => cases hexec; exact h.aTransmitCreditSymbol
    | forwardFifoStart => cases hexec; exact h.forwardFifoStart
    | answerListEntry => cases hexec; exact h.answerListEntry
    | engineTake => cases hexec; exact h.engineTake
    | slotConversion => cases hexec; exact h.slotConversion
    | conversionCompletion => cases hexec; exact h.conversionCompletion
    | holdTimerExpiry => cases hexec; exact h.holdTimerExpiry
    | releaseEntry => cases hexec; exact h.releaseEntry
    | coalescingTimerExpiry => cases hexec; exact h.coalescingTimerExpiry
    | reminderTimerExpiry => cases hexec; exact h.reminderTimerExpiry
    | validationFailure => cases hexec; exact h.validationFailure
    | compilationEnd => cases hexec; exact h.compilationEnd
    | swap => cases hexec; exact h.swap
    | _ => cases hrq

end Bounded

/-- Settles O56: every command and the passing of a millisecond keep what is bounded bounded. -/
theorem boundsAreKept : Obligations.BoundsAreKept := fun _ _ hcapacity hcredits hstep =>
  have h := step_keeps (P := Bounded) (fun _ _ h => { h with }) (fun _ h => h.tick) (fun _ _ _ h hexec => h.exec hexec)
    ⟨hcapacity, hcredits⟩ hstep
  ⟨h.toWithinCapacity, h.toCreditsHonest⟩

end Sys2Proof.Machine
end


section
/-! What the commands other than the request rows can do: the lanes and queues of the links, one enumeration, and the events of the
answer list, the engine, the hold, the timers and the commit. -/

namespace Sys2Proof.Machine

set_option Elab.async false

/-- Two states that differ at most in what belongs to the links: lanes, credits, FIFOs, queues, the notice slot and their counters;
an ingress buffer with a frame keeps one. -/
structure ControlKept (s t : State) : Prop where
  eq : t = { s with
    aRx := t.aRx, cRx := t.cRx, aTx := t.aTx, cTx := t.cTx, dataCredits := t.dataCredits, controlCredits := t.controlCredits
    outstanding := t.outstanding, grants := t.grants, lastCreditSent := t.lastCreditSent, ingress := t.ingress
    transit := t.transit, forward := t.forward, outQueue := t.outQueue, exc := { s.exc with slot := t.exc.slot }
    requests := t.requests, responses := t.responses, laneCounters := t.laneCounters, requestDrops := t.requestDrops }
  ingress : s.ingress ≠ [] → t.ingress ≠ []

namespace ControlKept
variable {s t u : State}

theorem refl (s : State) : ControlKept s s := ⟨rfl, id⟩

theorem trans (h : ControlKept s t) (h' : ControlKept t u) : ControlKept s u :=
  ⟨h'.eq.trans (by rw [h.eq]), h'.ingress ∘ h.ingress⟩

/-! ## Shared operations -/

theorem setRx (s : State) (side : Side) (r : RxLane) : ControlKept s (s.setRx side r) := by cases side <;> exact ⟨rfl, id⟩

theorem countRx (s : State) (side : Side) (f : RxCounters → RxCounters) : ControlKept s (s.countRx side f) := by
  cases side <;> exact ⟨rfl, id⟩

theorem closeMalformed (s : State) (side : Side) : ControlKept s (s.closeMalformed side) := by
  rcases s.closeMalformed_cases side with ⟨-, heq⟩ | ⟨b, -, heq⟩ <;> rw [heq]
  · exact refl s
  · exact (setRx s ..).trans (countRx ..)

theorem onValidSymbol (s : State) (side : Side) {act : State → State} (hact : ∀ u, ControlKept u (act u)) :
    ControlKept s (s.onValidSymbol side act) := by
  unfold State.onValidSymbol
  split
  · exact refl s
  · exact setRx ..
  · exact (setRx s ..).trans (hact _)

theorem clearCredits (s : State) (side : Side) : ControlKept s (s.clearCredits side) := by cases side <;> exact ⟨rfl, id⟩

theorem laneDown (s : State) (side : Side) : ControlKept s (s.laneDown side) := by
  have hdropped : ControlKept s (s.dropPartial side) := by
    rcases s.dropPartial_cases side with ⟨-, heq⟩ | ⟨b, -, heq⟩ <;> rw [heq]
    · exact refl s
    · exact (setRx s ..).trans (countRx ..)
  exact ((hdropped.trans (countRx ..)).trans (setRx ..)).trans (clearCredits ..)

theorem grantData (s : State) : ControlKept s s.grantData := by
  rcases s.grantData_cases with ⟨-, -, heq⟩ | ⟨-, heq⟩ <;> rw [heq] <;> exact ⟨rfl, id⟩

theorem grantControl (s : State) : ControlKept s s.grantControl := by
  rcases s.grantControl_cases with ⟨-, -, heq⟩ | ⟨-, heq⟩ <;> rw [heq] <;> exact ⟨rfl, id⟩

theorem offerForward (s : State) (f : Frame) : ControlKept s (s.offerForward f) := by
  rcases s.offerForward_cases f with ⟨-, heq⟩ | ⟨-, heq⟩ <;> rw [heq] <;> exact ⟨rfl, id⟩

theorem offerRequest (s : State) (rq : Request) : ControlKept s (s.offerRequest rq) := by
  rcases s.offerRequest_cases rq with ⟨-, heq⟩ | ⟨-, heq⟩ <;> rw [heq] <;> exact ⟨rfl, id⟩

/-! ## The commands of the links -/

theorem symbolLock (s : State) (side : Side) : ControlKept s (symbolLock side s) := by
  unfold Machine.symbolLock
  split
  · exact setRx ..
  · exact refl s
  · exact refl s

theorem lossOfLock (s : State) (side : Side) : ControlKept s (lossOfLock side s) := by
  unfold Machine.lossOfLock
  split
  · exact refl s
  · exact (setRx s ..).trans (clearCredits ..)
  · exact laneDown ..

theorem laneUp (s : State) (side : Side) : ControlKept s (laneUp side s) := by
  cases side <;> exact ⟨rfl, id⟩

theorem idleSymbol (s : State) (side : Side) : ControlKept s (idleSymbol side s) := by
  unfold Machine.idleSymbol
  split
  · exact refl s
  · dsimp only
    split
    · exact setRx ..
    · exact (setRx s ..).trans (laneUp ..)
  · exact (setRx s ..).trans (closeMalformed ..)

theorem invalidSymbol (s : State) (side : Side) : ControlKept s (invalidSymbol side s) := by
  unfold Machine.invalidSymbol
  split
  · exact refl s
  · exact setRx ..
  · dsimp only
    split
    · exact setRx ..
    · exact (setRx s ..).trans (laneDown ..)

theorem startSymbol (s : State) (side : Side) : ControlKept s (startSymbol side s) :=
  onValidSymbol s side fun u => (closeMalformed u side).trans (setRx ..)

theorem dataWordSymbol (s : State) (side : Side) (w : Word) : ControlKept s (dataWordSymbol side w s) := by
  refine onValidSymbol s side fun u => ?_
  split
  · exact setRx ..
  · exact countRx ..

theorem creditSymbol (s : State) (side : Side) {act : State → State} (hact : ∀ u, ControlKept u (act u)) :
    ControlKept s (creditSymbol side act s) := by
  refine onValidSymbol s side fun u => ?_
  cases side
  · exact closeMalformed u .a
  · exact (closeMalformed u .c).trans (hact _)

theorem sortARx (s : State) (k : FrameKind) (f : Frame) : ControlKept s (sortARx k f s) := by
  cases k <;> simp only [Machine.sortARx]
  case data =>
    split
    · exact ⟨rfl, fun _ => by simp⟩
    · exact ⟨rfl, id⟩
  case response | notice | report => split <;> exact ⟨rfl, id⟩
  case request | enumerate => exact countRx ..

theorem closeARx (s : State) (b : Assembly) : ControlKept s (closeARx b s) := by
  unfold Machine.closeARx
  extract_lets lowers s1
  have hlowered : ControlKept s s1 := by
    subst s1
    split <;> exact ⟨rfl, id⟩
  split
  · exact hlowered.trans (sortARx ..)
  · dsimp only
    split
    · exact (hlowered.trans (countRx ..)).trans (grantData _)
    · exact hlowered.trans (countRx ..)

theorem aReceiveFrameEnd (s : State) : ControlKept s (aReceiveFrameEnd s) := by
  unfold Machine.aReceiveFrameEnd frameEnd
  refine onValidSymbol s .a fun u => ?_
  split
  · exact (setRx u ..).trans (closeARx ..)
  · exact countRx ..

theorem egressStart (s : State) : ControlKept s (egressStart s) := by
  unfold Machine.egressStart
  split
  · exact refl s
  · split
    · unfold startResponse; split <;> exact ⟨rfl, id⟩
    · unfold startNotice; split <;> exact ⟨rfl, id⟩
    · unfold startTransit
      split
      · next f rest _ =>
        have hstarted : ControlKept s { s.sendC f.words with transit := rest, controlCredits := s.controlCredits - 1 } :=
          ⟨rfl, id⟩
        exact hstarted.trans (grantControl _)
      · exact refl s
    · unfold startOutput; split <;> exact ⟨rfl, id⟩
    · exact refl s

theorem transmitFrameEnd (s : State) (side : Side) : ControlKept s (transmitFrameEnd side s) := by
  cases side <;> exact ⟨rfl, id⟩

theorem aTransmitCreditSymbol (s : State) : ControlKept s (aTransmitCreditSymbol s) := by
  unfold Machine.aTransmitCreditSymbol
  split <;> exact ⟨rfl, id⟩

theorem forwardFifoStart (s : State) : ControlKept s (forwardFifoStart s) := by
  unfold Machine.forwardFifoStart
  split <;> exact ⟨rfl, id⟩

end ControlKept

/-- A link command, or such a command followed by the taking of an ENUMERATE (R164). -/
def LinkOrEnumerated (s t : State) : Prop :=
  ControlKept s t ∨ ∃ u carried, ControlKept s u ∧ t = enumerated carried u

theorem closeCRx_links (s : State) (b : Assembly) : LinkOrEnumerated s (closeCRx b s) := by
  unfold closeCRx
  split
  · next k f _ =>
    cases k with
    | request =>
      simp only [sortCRx]
      split
      · exact .inl ((ControlKept.offerRequest s _).trans (.offerForward ..))
      · split
        · exact .inl (.offerRequest ..)
        · exact .inl (.offerForward ..)
    | enumerate => exact .inr ⟨s, _, .refl s, rfl⟩
    | data | response | notice | report => exact .inl (.countRx s .c _)
  · exact .inl (.countRx ..)

theorem cReceiveFrameEnd_links (s : State) : LinkOrEnumerated s (cReceiveFrameEnd s) := by
  unfold cReceiveFrameEnd frameEnd State.onValidSymbol
  split
  · exact .inl (.refl s)
  · exact .inl (.setRx ..)
  · dsimp only
    have hvalid := ControlKept.setRx s .c { s.rx .c with invalidCount := 0 }
    split
    · next b _ =>
      have hclosed := hvalid.trans (.setRx _ .c { (s.setRx .c { s.rx .c with invalidCount := 0 }).rx .c with assembly := none })
      rcases closeCRx_links _ b with hlink | ⟨u, a, hu, heq⟩
      · exact .inl (hclosed.trans hlink)
      · exact .inr ⟨u, a, hclosed.trans hu, heq⟩
    · exact .inl (hvalid.trans (.countRx ..))

theorem enumerate_links (s : State) (a : Address) : LinkOrEnumerated s (enumerate a s) := by
  unfold enumerate
  split
  · refine .inr ⟨_, a, ?_, rfl⟩
    exact ⟨rfl, id⟩
  · exact .inl (.refl s)

/-- Everything that a command other than a request row can do. -/
inductive EventEffect (s : State) : State → Prop
  | deviceReset : EventEffect s (deviceReset s)
  | links {t : State} (h : ControlKept s t) : EventEffect s t
  | enumerated {u : State} (h : ControlKept s u) (carried : Address) : EventEffect s (enumerated carried u)
  | answerListEntry : EventEffect s (answerListEntry s)
  | engineTake : EventEffect s (engineTake s)
  | slotConversion : EventEffect s (slotConversion s)
  | conversionCompletion : EventEffect s (conversionCompletion s)
  | holdTimerExpiry : EventEffect s (holdTimerExpiry s)
  | releaseEntry : EventEffect s (releaseEntry s)
  | coalescingTimerExpiry : EventEffect s (coalescingTimerExpiry s)
  | reminderTimerExpiry : EventEffect s (reminderTimerExpiry s)
  | validationFailure : EventEffect s (validationFailure s)
  | compilationEnd : EventEffect s (compilationEnd s)
  | swap : EventEffect s (swap s)

theorem LinkOrEnumerated.event {s t : State} (h : LinkOrEnumerated s t) : EventEffect s t := by
  rcases h with h | ⟨u, a, h, rfl⟩
  · exact .links h
  · exact .enumerated h a

theorem exec_event : ∀ {i : Instr}, i.request? = none → ∀ s, ∃ t, exec i s = .next t ∧ EventEffect s t
  | .deviceReset, _, _ => ⟨_, rfl, .deviceReset⟩
  | .symbolLock lane, _, s => ⟨_, rfl, .links (.symbolLock s lane)⟩
  | .lossOfLock lane, _, s => ⟨_, rfl, .links (.lossOfLock s lane)⟩
  | .idleSymbol lane, _, s => ⟨_, rfl, .links (.idleSymbol s lane)⟩
  | .invalidSymbol lane, _, s => ⟨_, rfl, .links (.invalidSymbol s lane)⟩
  | .startSymbol lane, _, s => ⟨_, rfl, .links (.startSymbol s lane)⟩
  | .dataWordSymbol lane w, _, s => ⟨_, rfl, .links (.dataWordSymbol s lane w)⟩
  | .aReceiveFrameEnd, _, s => ⟨_, rfl, .links (.aReceiveFrameEnd s)⟩
  | .cReceiveFrameEnd, _, s => ⟨_, rfl, (cReceiveFrameEnd_links s).event⟩
  | .enumerate a, _, s => ⟨_, rfl, (enumerate_links s a).event⟩
  | .creditDataReceived lane, _, s => ⟨_, rfl, .links (.creditSymbol s lane fun _ => ⟨rfl, id⟩)⟩
  | .creditControlReceived lane, _, s => ⟨_, rfl, .links (.creditSymbol s lane fun _ => ⟨rfl, id⟩)⟩
  | .creditResetReceived lane, _, s => ⟨_, rfl, .links (.creditSymbol s lane fun _ => ⟨rfl, id⟩)⟩
  | .egressStart, _, s => ⟨_, rfl, .links (.egressStart s)⟩
  | .transmitFrameEnd lane, _, s => ⟨_, rfl, .links (.transmitFrameEnd s lane)⟩
  | .aTransmitCreditSymbol, _, s => ⟨_, rfl, .links (.aTransmitCreditSymbol s)⟩
  | .forwardFifoStart, _, s => ⟨_, rfl, .links (.forwardFifoStart s)⟩
  | .answerListEntry, _, _ => ⟨_, rfl, .answerListEntry⟩
  | .engineTake, _, _ => ⟨_, rfl, .engineTake⟩
  | .slotConversion, _, _ => ⟨_, rfl, .slotConversion⟩
  | .conversionCompletion, _, _ => ⟨_, rfl, .conversionCompletion⟩
  | .holdTimerExpiry, _, _ => ⟨_, rfl, .holdTimerExpiry⟩
  | .releaseEntry, _, _ => ⟨_, rfl, .releaseEntry⟩
  | .coalescingTimerExpiry, _, _ => ⟨_, rfl, .coalescingTimerExpiry⟩
  | .reminderTimerExpiry, _, _ => ⟨_, rfl, .reminderTimerExpiry⟩
  | .validationFailure, _, _ => ⟨_, rfl, .validationFailure⟩
  | .compilationEnd, _, _ => ⟨_, rfl, .compilationEnd⟩
  | .swap, _, _ => ⟨_, rfl, .swap⟩

/-- A property kept by every request row and by every effect of another command is kept by every command. -/
theorem exec_keeps {P : State → Prop} (hevent : ∀ s t, P s → EventEffect s t → P t)
    (htake : ∀ s rq row body e, P s → (row rq = true → ∀ u, BodyEffect rq u e (body rq u)) → P (agentTake row body rq s))
    {i : Instr} {s t : State} (h : P s) (hexec : exec i s = .next t) : P t := by
  cases hrq : i.request? with
  | some rq =>
    obtain ⟨row, body, heq, -, heffect⟩ := exec_request hrq
    exact Host.Outcome.next.inj ((heq s).symm.trans hexec) ▸ htake s rq row body _ h heffect
  | none =>
    obtain ⟨u, heq, heffect⟩ := exec_event hrq s
    exact Host.Outcome.next.inj (heq.symm.trans hexec) ▸ hevent s u h heffect

end Sys2Proof.Machine
end


section
/-! Proof that every step keeps parameters, timers, notice states, record numbers and the tag cache sound (R115, R127, R134, R135,
R137, R172, R175; Table 7-3). -/

namespace Sys2Proof.Machine

set_option Elab.async false

/-! ## The exception unit -/

/-- A sound exception unit: its notice state, its record numbers and the reach of its timers. -/
structure UnitSound (x : ExceptionUnit) : Prop extends NoticeConsistent x, RecordsConsecutive x where
  coalescingReach : ∀ n, x.coalescing = some n → n ≤ 255
  reminderReach : ∀ n, x.reminder = some n → n ≤ 100

/-- A record stored with the next number continues the numbers. -/
theorem RecordsConsecutive.append {x y : ExceptionUnit} {r : ExceptionRecord} (h : RecordsConsecutive x)
    (hqueue : y.queue = x.queue ++ [r]) (hr : r.seq = x.nextSeq) (hnext : y.nextSeq = x.nextSeq + 1) : RecordsConsecutive y where
  consecutive i hi := by
    simp only [hqueue] at hi ⊢
    by_cases hlast : i + 1 < x.queue.length
    · simpa [List.getElem_append_left, hlast, Nat.lt_of_succ_lt hlast] using h.consecutive i hlast
    · have hlength : x.queue.length = i + 1 := by simp at hi; omega
      have hnewest := h.newest x.queue[i] (by simp [List.getLast?_eq_getElem?, hlength])
      simpa [hlength, hr] using hnewest.symm
  newest k hk := by
    rw [hqueue, List.getLast?_concat] at hk
    rw [← Option.some.inj hk, hr, hnext]

/-- The records that an acknowledgement leaves keep their numbers. -/
theorem RecordsConsecutive.drop {x y : ExceptionUnit} {before : List ExceptionRecord} (h : RecordsConsecutive x)
    (hqueue : x.queue = before ++ y.queue) (hnext : y.nextSeq = x.nextSeq) : RecordsConsecutive y where
  consecutive i hi := by
    have hboth := h.consecutive (before.length + i) (by simp only [hqueue, List.length_append]; omega)
    simpa [hqueue, Nat.add_assoc] using hboth
  newest k hk := hnext ▸ h.newest k (by simp [hqueue, hk])

namespace UnitSound
variable {x : ExceptionUnit}

theorem take (h : UnitSound x) {p : Params} (hinterval : p.coalesceInterval ≤ 255) (r : ExceptionRecord) :
    UnitSound (x.take p r) := by
  rcases x.take_cases p r with ⟨-, hqueue, hnext, -, -, hthreshold, hother⟩ | ⟨-, heq⟩
  · have hrecords := h.toRecordsConsecutive.append hqueue rfl hnext
    have hsome : (x.take p r).queue ≠ [] := by simp [hqueue]
    by_cases hreached : x.queue.length + 1 = p.noticeThreshold
    · obtain ⟨hnotice, hcoalescing, hreminder, hcount, -⟩ := hthreshold hreached
      exact { hrecords with
        gathering := by simp [hnotice, hcoalescing]
        announced := by simp [hnotice, hreminder]
        count := by simp [hcount]
        records := fun _ => hsome
        coalescingReach := by simp [hcoalescing]
        reminderReach := by simp [hreminder] }
    · obtain ⟨hnotice, hcoalescing, hreminder, hcount, -⟩ := hother hreached
      have hgathering := h.gathering
      have hannounced := h.announced
      exact { hrecords with
        gathering := by rw [hnotice, hcoalescing]; split <;> simp_all
        announced := by rw [hnotice, hreminder]; split <;> simp_all
        count := ⟨hcount ▸ h.count.1, by simp [hnotice]⟩
        records := fun _ => hsome
        coalescingReach := fun n hn => by
          rw [hcoalescing] at hn
          split at hn
          · exact h.coalescingReach n hn
          · exact Option.some.inj hn ▸ hinterval
        reminderReach := fun n hn => by
          rw [hreminder] at hn
          split at hn
          · cases hn
          · exact h.reminderReach n hn }
  · rw [heq]; exact { h with }

/-- Announcing in GATHERING. -/
theorem announce (h : UnitSound x) (hnotice : x.notice = .gathering) (reason : NoticeReason) : UnitSound (x.announce reason) :=
  { h with
    gathering := by simp [ExceptionUnit.announce]
    announced := by simp [ExceptionUnit.announce]
    count := ⟨Nat.zero_le _, fun _ => Nat.succ_pos 2⟩
    records := fun _ => h.records (by simp [hnotice])
    coalescingReach := nofun
    reminderReach := fun n hn => (Option.some.inj hn).ge }

theorem coalescingExpiry (h : UnitSound x) : UnitSound x.coalescingExpiry := by
  unfold ExceptionUnit.coalescingExpiry
  split
  · exact h.announce ‹_› _
  · exact h

theorem reminderExpiry (h : UnitSound x) : UnitSound x.reminderExpiry := by
  unfold ExceptionUnit.reminderExpiry
  split
  · next hnotice hreminder =>
    split
    · next hcount =>
      have hrecords := h.records (by simp [hnotice])
      have hcoalescing := h.gathering
      dsimp only
      split
      · next hbelow => exact { h with
          announced := by simp [ExceptionUnit.placeNotice, hnotice]
          count := ⟨Nat.le_of_lt hbelow, fun _ => hbelow⟩
          reminderReach := fun n hn => (Option.some.inj hn).ge }
      · exact { h with
          gathering := by simpa [ExceptionUnit.placeNotice, hnotice] using hcoalescing
          announced := by simp
          count := ⟨hcount, by simp⟩
          records := fun _ => hrecords
          reminderReach := nofun }
    · exact h
  · exact h

theorem isSome_timerTick (t : Timer) : (timerTick t).isSome = t.isSome := Option.isSome_map

theorem timerTick_le {t : Timer} {m : Nat} (h : ∀ n, t = some n → n ≤ m) : ∀ n, timerTick t = some n → n ≤ m := by
  intro n hn
  obtain ⟨k, hk, rfl⟩ := Option.map_eq_some_iff.1 hn
  exact (Nat.sub_le ..).trans (h k hk)

theorem tickCoalescing (h : UnitSound x) : UnitSound { x with coalescing := timerTick x.coalescing } := { h with
  gathering := by simpa only [isSome_timerTick] using h.gathering
  coalescingReach := timerTick_le h.coalescingReach }

theorem tickReminder (h : UnitSound x) : UnitSound { x with reminder := timerTick x.reminder } := { h with
  announced := by simpa only [isSome_timerTick] using h.announced
  reminderReach := timerTick_le h.reminderReach }

theorem acknowledge (h : UnitSound x) {before rest : List ExceptionRecord} {k : ExceptionRecord}
    (hqueue : x.queue = before ++ k :: rest) : UnitSound (x.acknowledge rest) := by
  have hsplit : x.queue = (before ++ [k]) ++ rest := by simp [hqueue]
  unfold ExceptionUnit.acknowledge
  split
  · next hempty =>
    have hrest : rest = [] := List.isEmpty_iff.1 hempty
    exact {
      toRecordsConsecutive := h.toRecordsConsecutive.drop (before := before ++ [k]) (by rw [hsplit, hrest]) rfl
      gathering := by simp
      announced := by simp
      count := by simp
      records := by simp
      coalescingReach := nofun
      reminderReach := nofun }
  · next hrest =>
    exact { h with
      toRecordsConsecutive := h.toRecordsConsecutive.drop (y := { x with queue := rest }) hsplit rfl
      records := fun _ => mt List.isEmpty_iff.2 hrest }

theorem reset : UnitSound .reset where
  gathering := by simp [ExceptionUnit.reset]
  announced := by simp [ExceptionUnit.reset]
  count := by simp [ExceptionUnit.reset]
  records := by simp [ExceptionUnit.reset]
  consecutive := by simp [ExceptionUnit.reset]
  newest := by simp [ExceptionUnit.reset]
  coalescingReach := by simp [ExceptionUnit.reset]
  reminderReach := by simp [ExceptionUnit.reset]

end UnitSound

/-! ## The tag cache -/

/-- What an insertion keeps: entries of the cache, in their order, of other tags. -/
theorem cacheInsert_eq (cache : List CacheEntry) (e : CacheEntry) :
    ∃ kept, cacheInsert cache e = kept ++ [e] ∧ kept.Sublist (cache.filter fun k => k.request.tag != e.request.tag) := by
  refine ⟨_, rfl, ?_⟩
  split
  · exact .refl _
  · exact List.tail_sublist _

theorem mem_cacheInsert {cache : List CacheEntry} {e k : CacheEntry} (h : k ∈ cacheInsert cache e) : k ∈ cache ∨ k = e := by
  obtain ⟨kept, heq, hkept⟩ := cacheInsert_eq cache e
  rw [heq, List.mem_append, List.mem_singleton] at h
  exact h.imp_left fun hk => List.mem_of_mem_filter (hkept.mem hk)

/-- One entry for each tag stays one. -/
theorem nodup_cacheInsert {cache : List CacheEntry} (h : (cache.map fun k => k.request.tag).Nodup) (e : CacheEntry) :
    ((cacheInsert cache e).map fun k => k.request.tag).Nodup := by
  obtain ⟨kept, heq, hkept⟩ := cacheInsert_eq cache e
  rw [heq, List.map_append, List.map_singleton, List.nodup_append]
  refine ⟨h.sublist ((hkept.trans List.filter_sublist).map _), List.nodup_singleton _, fun tag htag tag' htag' => ?_⟩
  obtain ⟨k, hk, rfl⟩ := List.mem_map.1 htag
  obtain rfl := List.mem_singleton.1 htag'
  simpa using (List.mem_filter.1 (hkept.mem hk)).2

/-! ## The invariant -/

/-- What the obligation speaks of, with the exception unit as one. -/
structure NoticesSound (s : State) : Prop where
  interval : 1 ≤ s.params.coalesceInterval ∧ s.params.coalesceInterval ≤ 255
  threshold : 1 ≤ s.params.noticeThreshold ∧ s.params.noticeThreshold ≤ 32
  timeout : s.params.holdTimeout ≤ 1000
  hold : ∀ f n, s.hold = .held f (some n) → n ≤ 1000
  unit : UnitSound s.exc
  cached : CacheSound s

namespace NoticesSound
variable {s : State}

/-- Only the cache and the deferred COMMIT matter to `CacheSound`. -/
theorem answerAs (h : NoticesSound s) {crossed : Bool} {rq : Request} (hcrossed : crossed = true → rq.code = 0x0A) (r : Reply) :
    NoticesSound (s.answerAs crossed rq r) := by
  rw [State.answerAs_eq]
  refine { h with cached := ?_ }
  by_cases hstatus : r.status.cached = true
  · have hentry {P : CacheEntry → Prop} (hold : ∀ k ∈ s.cache, P k) (hnew : P ⟨rq, s.respond rq r, crossed⟩) :
        ∀ k ∈ cacheInsert s.cache ⟨rq, s.respond rq r, crossed⟩, P k := fun k hk =>
      (mem_cacheInsert hk).elim (hold k) fun heq => heq ▸ hnew
    simp only [hstatus, if_true]
    exact {
      oneEntry := nodup_cacheInsert h.cached.oneEntry _
      paired := hentry h.cached.paired ⟨rfl, rfl⟩
      status := hentry h.cached.status (by rw [← not_or]; exact mt (Status.cached_eq_false _).2 (by simp [State.respond, hstatus]))
      deferred := h.cached.deferred
      crossed := hentry h.cached.crossed hcrossed }
  · simp only [hstatus]
    exact { h.cached with }

theorem answer (h : NoticesSound s) (rq : Request) (r : Reply) : NoticesSound (s.answer rq r) :=
  h.answerAs (crossed := false) nofun r

theorem endCommit (h : NoticesSound s) (r : Reply) : NoticesSound (s.endCommit r) := by
  rcases s.endCommit_cases r with ⟨-, heq⟩ | ⟨rq, hrq, heq⟩ <;> rw [heq]
  · exact h
  · have hended : NoticesSound { s with deferredCommit := none, commitEnumerated := false } := { h with
      cached := { h.cached with deferred := nofun } }
    exact hended.answerAs (fun _ => h.cached.deferred rq hrq) r

theorem endRelease (h : NoticesSound s) (r : Reply) : NoticesSound (s.endRelease r) := by
  rcases s.endRelease_cases r with ⟨-, heq⟩ | ⟨rq, -, heq⟩ <;> rw [heq]
  · exact h
  · have hended : NoticesSound { s with deferredRelease := none } := { h with cached := { h.cached with } }
    exact hended.answer rq r

theorem place (h : NoticesSound s) (f : AgentFrame) : NoticesSound (s.place f) := by
  rcases s.place_cases f with ⟨-, -, heq⟩ | ⟨-, heq⟩ <;> rw [heq] <;> exact { h with cached := { h.cached with } }

theorem handRecord (h : NoticesSound s) (r : ExceptionRecord) : NoticesSound (s.handRecord r) :=
  { h with unit := h.unit.take h.interval.2 r, cached := { h.cached with } }

/-- A state with the same parameters, hold, exception unit, cache and deferred COMMIT. -/
theorem congr (h : NoticesSound s) {t : State} (hparams : t.params = s.params) (hhold : t.hold = s.hold) (hexc : t.exc = s.exc)
    (hcache : t.cache = s.cache) (hcommit : t.deferredCommit = s.deferredCommit) : NoticesSound t where
  interval := hparams ▸ h.interval
  threshold := hparams ▸ h.threshold
  timeout := hparams ▸ h.timeout
  hold := hhold ▸ h.hold
  unit := hexc ▸ h.unit
  cached := {
    oneEntry := hcache ▸ h.cached.oneEntry
    paired := hcache ▸ h.cached.paired
    status := hcache ▸ h.cached.status
    deferred := hcommit ▸ h.cached.deferred
    crossed := hcache ▸ h.cached.crossed }

/-! ## The events -/

theorem links (h : NoticesSound s) {t : State} (hlinks : ControlKept s t) : NoticesSound t := by
  rw [hlinks.eq]
  exact { h with unit := { h.unit with }, cached := { h.cached with } }

theorem freeIngress (h : NoticesSound s) : NoticesSound s.freeIngress := by
  rcases s.freeIngress_cases with ⟨-, -, heq⟩ | ⟨-, heq⟩ <;> rw [heq] <;> exact h.congr rfl rfl rfl rfl rfl

theorem enumerated (h : NoticesSound s) (carried : Address) : NoticesSound (enumerated carried s) := by
  have hnamed : NoticesSound { s with
      nodeAddress := takenAddress carried, cache := [], commitEnumerated := s.deferredCommit.isSome } := { h with
    cached := { oneEntry := List.nodup_nil, paired := nofun, status := nofun, deferred := h.cached.deferred, crossed := nofun } }
  unfold Machine.enumerated
  refine .links ?_ (.offerForward ..)
  split
  · exact hnamed
  · unfold State.placeReport
    split
    · exact hnamed.congr rfl rfl rfl rfl rfl
    · exact hnamed.place _

theorem answerListEntry (h : NoticesSound s) : NoticesSound (answerListEntry s) := by
  unfold Machine.answerListEntry
  split
  · split
    · exact h.congr rfl rfl rfl rfl rfl
    · exact h
  · exact h

theorem beginConversion (h : NoticesSound s) (i : Fin 8) (f : Frame) : NoticesSound (beginConversion i f s) := by
  have hgap : NoticesSound (gapCheck i f s) := by
    unfold gapCheck
    dsimp only
    split <;> exact h.congr rfl rfl rfl rfl rfl
  have hlength : NoticesSound (lengthCheck i f (gapCheck i f s)) := by
    unfold lengthCheck
    split
    · dsimp only
      split
      · exact hgap
      · exact (hgap.handRecord _).congr rfl rfl rfl rfl rfl
    · exact hgap
  exact hlength.congr rfl rfl rfl rfl rfl

theorem engineTake (h : NoticesSound s) : NoticesSound (engineTake s) := by
  have hfreed := h.freeIngress
  unfold Machine.engineTake
  split
  · exact h
  · split
    · split
      · exact hfreed.congr rfl rfl rfl rfl rfl
      · split
        · unfold settleUnmatched
          split <;> exact hfreed.congr rfl rfl rfl rfl rfl
        · exact h.beginConversion ..
    · exact h

theorem takeCondition (h : NoticesSound s) (c : Conversion) (inputSeq : Seq) (owner : Fin 128) (stored : List Word)
    (k : Condition) : NoticesSound (takeCondition c inputSeq owner stored k s) := by
  unfold Machine.takeCondition
  dsimp only
  split
  · exact (h.handRecord _).congr rfl rfl rfl rfl rfl
  · exact h.congr rfl rfl rfl rfl rfl

theorem slotConversion (h : NoticesSound s) : NoticesSound (slotConversion s) := by
  unfold Machine.slotConversion
  split
  · split
    · exact h
    · have hsettled (e : Engine) : NoticesSound { s with engine := e } := h.congr rfl rfl rfl rfl rfl
      dsimp only
      split
      · exact hsettled _
      · exact (hsettled _).takeCondition ..
  · exact h

theorem sendCompleted (h : NoticesSound s) (c : Conversion) (g : CondFrame) : NoticesSound (sendCompleted c g s) := by
  have hrefused : NoticesSound (refuseDivert c g s) := by
    have hentered : NoticesSound (s.enterOutput (.conditioned { g with refused := true })) := h.congr rfl rfl rfl rfl rfl
    exact (hentered.handRecord _).congr rfl rfl rfl rfl rfl
  unfold Machine.sendCompleted
  split
  · split
    · exact { h with
        hold := fun f n hn => by
          have htimer : (if s.params.holdTimeout = 0 then none else some s.params.holdTimeout) = some n := (Hold.held.inj hn).2
          split at htimer
          · cases htimer
          · exact Option.some.inj htimer ▸ h.timeout
        cached := { h.cached with } }
    · exact hrefused
    · exact hrefused
  · exact h.congr rfl rfl rfl rfl rfl

theorem conversionCompletion (h : NoticesSound s) : NoticesSound (conversionCompletion s) := by
  unfold Machine.conversionCompletion
  split
  · next c f _ _ _ =>
    split
    · exact h
    · have hcounted : NoticesSound ((s.setRuntime c.stream { s.runtime.get c.stream with
          nextOutput := (s.runtime.get c.stream).nextOutput + 1 }).countStream c.stream (·.complete c.exception)) :=
        h.congr rfl rfl rfl rfl rfl
      exact (hcounted.freeIngress.sendCompleted c _).congr rfl rfl rfl rfl rfl
  · exact h

/-- A hold that is not held has no timer to bound. -/
theorem setHold (h : NoticesSound s) {hold : Hold} (hnot : ∀ f t, hold ≠ .held f t) : NoticesSound { s with hold := hold } := { h with
  hold := fun f _ hn => absurd hn (hnot f _)
  cached := { h.cached with } }

theorem releaseHeld (h : NoticesSound s) (f : CondFrame) (reason : ReleaseReason) : NoticesSound (releaseHeld f reason s) := by
  unfold Machine.releaseHeld
  split
  · exact (h.setHold (hold := .empty) nofun).congr rfl rfl rfl rfl rfl
  · exact h.setHold nofun

theorem holdTimerExpiry (h : NoticesSound s) : NoticesSound (holdTimerExpiry s) := by
  unfold Machine.holdTimerExpiry
  split
  · have hcounted (k : HoldCounters) : NoticesSound { s with holdCounters := k } := h.congr rfl rfl rfl rfl rfl
    exact (hcounted _).releaseHeld ..
  · exact h
  · exact h
  · exact h

theorem releaseEntry (h : NoticesSound s) : NoticesSound (releaseEntry s) := by
  unfold Machine.releaseEntry
  split
  · next f _ _ =>
    split
    · have hentered : NoticesSound ({ s with hold := .empty }.enterOutput (.conditioned f)) :=
        (h.setHold (hold := .empty) nofun).congr rfl rfl rfl rfl rfl
      dsimp only
      split
      · exact hentered.endRelease _
      · exact hentered
    · exact h
  · exact h
  · exact h

theorem setExc (h : NoticesSound s) {x : ExceptionUnit} (hx : UnitSound x) : NoticesSound { s with exc := x } :=
  { h with unit := hx, cached := { h.cached with } }

theorem tick (h : NoticesSound s) : NoticesSound (tick s) := by
  have hreminder : NoticesSound (tickReminder s) := by
    unfold tickReminder
    split
    · exact h.setExc h.unit.reminderExpiry
    · exact h.setExc h.unit.tickReminder
  have hcoalescing : NoticesSound (tickCoalescing (tickReminder s)) := by
    unfold tickCoalescing
    split
    · exact hreminder.setExc hreminder.unit.coalescingExpiry
    · exact hreminder.setExc hreminder.unit.tickCoalescing
  unfold Machine.tick tickHold
  split
  · next f t hhold =>
    split
    · exact hcoalescing.holdTimerExpiry
    · exact { hcoalescing with
        hold := fun _ n hn => UnitSound.timerTick_le (fun k hk => hcoalescing.hold f k (hk ▸ hhold)) n (Hold.held.inj hn).2
        cached := { hcoalescing.cached with } }
  · exact hcoalescing
  · exact hcoalescing

/-! ## Commit and resets -/

theorem validationFailure (h : NoticesSound s) : NoticesSound (validationFailure s) := by
  unfold Machine.validationFailure
  split
  · have hended : NoticesSound { s with phase := .idle, pendingLayouts := none } := h.congr rfl rfl rfl rfl rfl
    exact hended.endCommit _
  · exact h

theorem compilationEnd (h : NoticesSound s) : NoticesSound (compilationEnd s) := by
  unfold Machine.compilationEnd
  split
  · exact h.congr rfl rfl rfl rfl rfl
  · exact h

theorem swap (h : NoticesSound s) : NoticesSound (swap s) := by
  unfold Machine.swap
  split
  · next layouts _ _ _ =>
    have hswapped : NoticesSound { s with
        active := s.shadow, layouts := layouts, pendingLayouts := none, generation := nextGeneration s.generation
        runtime := runtimeAfterSwap s.active s.shadow s.runtime, phase := .idle } := h.congr rfl rfl rfl rfl rfl
    exact hswapped.endCommit _
  · exact h

theorem pipelineReset (h : NoticesSound s) : NoticesSound (pipelineReset s) := by
  have habandoned : NoticesSound (abandonCommit s) := by
    have hended : NoticesSound { s with phase := .idle, pendingLayouts := none } := h.congr rfl rfl rfl rfl rfl
    unfold abandonCommit
    split
    · exact h
    · exact hended.endCommit _
    · exact hended.endCommit _
  have hdropped : NoticesSound (dropHold (abandonCommit s)) := by
    have hemptied (k : HoldCounters) : NoticesSound { abandonCommit s with hold := .empty, holdCounters := k } :=
      (habandoned.setHold (hold := .empty) nofun).congr rfl rfl rfl rfl rfl
    unfold dropHold
    split
    · exact habandoned
    · exact (hemptied _).endRelease _
    · exact (hemptied _).endRelease _
  unfold Machine.pipelineReset emptyDataPath
  dsimp only
  split <;> exact hdropped.congr rfl rfl rfl rfl rfl

theorem exceptionReset (h : NoticesSound s) : NoticesSound (exceptionReset s) :=
  { h with unit := .reset, cached := { h.cached with } }

theorem reset : NoticesSound State.reset where
  interval := by decide
  threshold := by decide
  timeout := by decide
  hold := nofun
  unit := .reset
  cached := { oneEntry := List.nodup_nil, paired := nofun, status := nofun, deferred := nofun, crossed := nofun }

theorem fullReset (h : NoticesSound s) : NoticesSound (fullReset s) :=
  { h.pipelineReset.exceptionReset with
    interval := reset.interval, threshold := reset.threshold, timeout := reset.timeout, cached := { h.pipelineReset.cached with } }

theorem event (h : NoticesSound s) {t : State} (heffect : EventEffect s t) : NoticesSound t := by
  cases heffect with
  | deviceReset => exact reset.congr rfl rfl rfl rfl rfl
  | links hlinks => exact h.links hlinks
  | enumerated hlinks carried => exact (h.links hlinks).enumerated carried
  | answerListEntry => exact h.answerListEntry
  | engineTake => exact h.engineTake
  | slotConversion => exact h.slotConversion
  | conversionCompletion => exact h.conversionCompletion
  | holdTimerExpiry => exact h.holdTimerExpiry
  | releaseEntry => exact h.releaseEntry
  | coalescingTimerExpiry => exact h.setExc h.unit.coalescingExpiry
  | reminderTimerExpiry => exact h.setExc h.unit.reminderExpiry
  | validationFailure => exact h.validationFailure
  | compilationEnd => exact h.compilationEnd
  | swap => exact h.swap

/-! ## The agent -/

/-- A parameter set keeps every parameter in its range (R175). -/
theorem setParams (h : NoticesSound s) {k : Parameter} {v : Nat} {p : Params} (hwrite : s.params.write k v = some p) :
    NoticesSound { s with params := p } := by
  cases k <;> simp only [Params.write] at hwrite
  case coalesceInterval =>
    obtain ⟨hrange, hp⟩ := Option.ite_none_right_eq_some.1 hwrite
    cases hp
    exact { h with interval := hrange, cached := { h.cached with } }
  case noticeThreshold =>
    obtain ⟨hrange, hp⟩ := Option.ite_none_right_eq_some.1 hwrite
    cases hp
    exact { h with threshold := hrange, cached := { h.cached with } }
  case holdTimeout =>
    obtain ⟨hrange, hp⟩ := Option.ite_none_right_eq_some.1 hwrite
    cases hp
    exact { h with timeout := hrange, cached := { h.cached with } }
  case unmatched =>
    split at hwrite
    · cases hwrite; exact { h with cached := { h.cached with } }
    · cases hwrite; exact { h with cached := { h.cached with } }
    · cases hwrite

theorem bodyEffect (h : NoticesSound s) {rq : Request} {e : RowEffect} {t : State} {r : Option Reply}
    (heffect : BodyEffect rq s e (t, r)) : NoticesSound t := by
  cases heffect with
  | answers => exact h
  | writesShadow | clearsSticky => exact h.congr rfl rfl rfl rfl rfl
  | commits _ hcode => exact { h with cached := { h.cached with deferred := fun d hd => Option.some.inj hd ▸ hcode } }
  | acknowledges _ hqueue => exact h.setExc (h.unit.acknowledge hqueue)
  | forwards | discards => exact (h.setHold (hold := .empty) nofun).congr rfl rfl rfl rfl rfl
  | waits => exact (h.setHold (hold := .releasing _ .request) nofun).congr rfl rfl rfl rfl rfl
  | clearsCounters g => cases g <;> exact h.congr rfl rfl rfl rfl rfl
  | setsParameter _ hwrite => exact h.setParams hwrite
  | resetsPipeline => exact h.pipelineReset
  | resetsExceptions => exact h.exceptionReset
  | resetsAll => exact h.fullReset

theorem clearCrossed (h : NoticesSound s) : NoticesSound s.clearCrossed := { h with
  cached := {
    oneEntry := h.cached.oneEntry.sublist (List.filter_sublist.map _)
    paired := fun e he => h.cached.paired e (List.mem_of_mem_filter he)
    status := fun e he => h.cached.status e (List.mem_of_mem_filter he)
    deferred := h.cached.deferred
    crossed := fun e he => h.cached.crossed e (List.mem_of_mem_filter he) } }

theorem agentTake (h : NoticesSound s) {row : Request → Bool} {body : CommandBody} {rq : Request} {e : RowEffect}
    (heffect : row rq = true → ∀ u, BodyEffect rq u e (body rq u)) : NoticesSound (agentTake row body rq s) := by
  refine agentTake_keeps heffect (fun u rest hu _ => ?_) (fun _ _ hu _ => hu.congr rfl rfl rfl rfl rfl)
    (fun _ _ _ hu _ _ hb => (hu.bodyEffect hb).answer ..) (fun _ _ hu _ hb => hu.bodyEffect hb) h
  have htaken : NoticesSound { u with requests := rest } := hu.congr rfl rfl rfl rfl rfl
  exact htaken.clearCrossed

end NoticesSound

/-- Settles O57: every command and the passing of a millisecond keep the parameters, the hold timer, the exception unit and the tag
cache sound. -/
theorem noticesAndCacheAreKept : Obligations.NoticesAndCacheAreKept := by
  intro s t htimers hnotices hrecords hcache hstep
  have h : NoticesSound s := { htimers, hcache with
    cached := hcache
    unit := { hnotices, hrecords with coalescingReach := htimers.coalescing, reminderReach := htimers.reminder } }
  have ht : NoticesSound t := step_keeps (fun _ _ h => h.congr rfl rfl rfl rfl rfl) (fun _ h => h.tick)
    (fun _ _ _ h hexec => exec_keeps (fun _ _ h heffect => h.event heffect) (fun _ _ _ _ _ h heffect => h.agentTake heffect) h hexec)
    h hstep
  exact ⟨{ ht with coalescing := ht.unit.coalescingReach, reminder := ht.unit.reminderReach }, ht.unit.toNoticeConsistent,
    ht.unit.toRecordsConsecutive, ht.cached⟩

end Sys2Proof.Machine
end


section
/-! Proof that every step keeps commit, hold, engine, layouts and deferred requests in agreement (R58, R60, R66, R86, R94, R97, R103,
R105, R107, R111, R170, R171). -/

namespace Sys2Proof.Machine

set_option Elab.async false

/-! ## The answers still to come -/

/-- The answers that wait in the answer list, and those that the deferred requests will bring. -/
def State.openAnswers (s : State) : Nat := (s.answers.filter (!·.isReport)).length + s.deferredCount

/-- One answer more finds a free entry of the response queue, or room in the answer list (R170). -/
def RoomForAnswer (s : State) : Prop := s.answers = [] ∧ s.responses.length < 2 ∨ s.openAnswers ≤ 1

theorem RoomForAnswer.congr {s t : State} (h : RoomForAnswer s) (hanswers : t.answers = s.answers)
    (hresponses : t.responses = s.responses) (hcommit : t.deferredCommit = s.deferredCommit)
    (hrelease : t.deferredRelease = s.deferredRelease) : RoomForAnswer t := by
  rwa [RoomForAnswer, State.openAnswers, State.deferredCount, hanswers, hresponses, hcommit, hrelease]

/-- An answer that finds a free entry of the response queue leaves the open answers as they are, another adds one. -/
theorem openAnswers_answerAs (s : State) (crossed : Bool) (rq : Request) (r : Reply) :
    (s.answerAs crossed rq r).openAnswers ≤ s.openAnswers + 1 ∧
    (s.answers = [] ∧ s.responses.length < 2 → (s.answerAs crossed rq r).openAnswers = s.openAnswers) := by
  rw [State.answerAs_eq]
  rcases s.place_cases (.response (s.respond rq r)) with ⟨hanswers, -, heq⟩ | ⟨hfull, heq⟩ <;> rw [heq]
  · exact ⟨Nat.le_succ _, fun _ => rfl⟩
  · refine ⟨?_, fun hready => ?_⟩
    · simp [State.openAnswers, State.deferredCount, AgentFrame.isReport]; omega
    · exact absurd hready.1 (hfull.resolve_right (Nat.not_le.2 hready.2))

/-- Answers bring no REPORT to the answer list. -/
theorem reports_answerAs (s : State) (crossed : Bool) (rq : Request) (r : Reply) :
    (s.answerAs crossed rq r).answers.filter (·.isReport) = s.answers.filter (·.isReport) := by
  rw [State.answerAs_eq]
  rcases s.place_cases (.response (s.respond rq r)) with ⟨-, -, heq⟩ | ⟨-, heq⟩ <;> rw [heq]
  simp [AgentFrame.isReport]

theorem AnswersBounded.answerAs {s : State} (h : AnswersBounded s) (hroom : RoomForAnswer s) (crossed : Bool) (rq : Request)
    (r : Reply) : AnswersBounded (s.answerAs crossed rq r) where
  answers := by
    obtain ⟨hle, heq⟩ := openAnswers_answerAs s crossed rq r
    rcases hroom with hready | hopen
    · exact (heq hready).trans_le h.answers
    · exact hle.trans (Nat.succ_le_succ hopen)
  reports := (congrArg List.length (reports_answerAs s crossed rq r)).trans_le h.reports

/-- A deferred request that ends leaves the room that its answer takes. -/
theorem AnswersBounded.ended {s u : State} (h : AnswersBounded s) (hanswers : u.answers = s.answers)
    (hcount : u.deferredCount + 1 = s.deferredCount) (crossed : Bool) (rq : Request) (r : Reply) :
    AnswersBounded (u.answerAs crossed rq r) := by
  have hopen : u.openAnswers + 1 ≤ 2 := by
    have := h.answers
    simp only [State.openAnswers, hanswers]; omega
  have hu : AnswersBounded u := ⟨(Nat.le_succ _).trans hopen, hanswers ▸ h.reports⟩
  exact hu.answerAs (.inr (Nat.le_of_succ_le_succ hopen)) ..

/-- After a deferred request has ended there is the room for one answer that there was before. -/
theorem RoomForAnswer.ended {s u : State} (hroom : RoomForAnswer s) (h : AnswersBounded s) (hanswers : u.answers = s.answers)
    (hresponses : u.responses = s.responses) (hcount : u.deferredCount + 1 = s.deferredCount) (crossed : Bool) (rq : Request)
    (r : Reply) : RoomForAnswer (u.answerAs crossed rq r) := by
  obtain ⟨hle, heq⟩ := openAnswers_answerAs u crossed rq r
  have hopen : u.openAnswers + 1 = s.openAnswers := by simp only [State.openAnswers, hanswers]; omega
  have htwo : s.openAnswers ≤ 2 := h.answers
  rcases hroom with hready | hone
  · rw [← hanswers, ← hresponses] at hready
    have := heq hready
    exact .inr (by omega)
  · exact .inr (by omega)

theorem deferredCount_endCommit {s u : State} {rq : Request} (hs : s.deferredCommit = some rq) (hu : u.deferredCommit = none)
    (hrelease : u.deferredRelease = s.deferredRelease) : u.deferredCount + 1 = s.deferredCount := by
  simp [State.deferredCount, hs, hu, hrelease]; omega

theorem deferredCount_endRelease {s u : State} {rq : Request} (hs : s.deferredRelease = some rq) (hu : u.deferredRelease = none)
    (hcommit : u.deferredCommit = s.deferredCommit) : u.deferredCount + 1 = s.deferredCount := by
  simp [State.deferredCount, hs, hu, hcommit]

theorem RoomForAnswer.endCommit {s : State} (hroom : RoomForAnswer s) (h : AnswersBounded s) (r : Reply) :
    RoomForAnswer (s.endCommit r) := by
  rcases s.endCommit_cases r with ⟨-, heq⟩ | ⟨rq, hrq, heq⟩ <;> rw [heq]
  · exact hroom
  · exact hroom.ended (u := { s with deferredCommit := none, commitEnumerated := false }) h rfl rfl
      (deferredCount_endCommit hrq rfl rfl) ..

theorem RoomForAnswer.endRelease {s : State} (hroom : RoomForAnswer s) (h : AnswersBounded s) (r : Reply) :
    RoomForAnswer (s.endRelease r) := by
  rcases s.endRelease_cases r with ⟨-, heq⟩ | ⟨rq, hrq, heq⟩ <;> rw [heq]
  · exact hroom
  · exact hroom.ended (u := { s with deferredRelease := none }) h rfl rfl (deferredCount_endRelease hrq rfl rfl) ..

/-! ## The invariant -/

structure Agreed (s : State) : Prop where
  deferred : DeferredAgree s
  answers : AnswersBounded s
  engine : EngineConsistent s
  tables : TablesCompiled s

/-- An idle engine holds no frame. -/
theorem EngineConsistent.of_idle {s : State} (h : s.engine = .idle) : EngineConsistent s where
  frame c hc := by rw [h] at hc; cases hc
  generation c hc := by rw [h] at hc; cases hc
  payload c hc := by rw [h] at hc; cases hc

/-- A commit whose phase and pending layouts are already set back, and whose deferred COMMIT is still to be answered. -/
structure CommitEnding (s : State) : Prop where
  phase : s.phase = .idle
  pendingLayouts : s.pendingLayouts = none
  enumerated : s.commitEnumerated = true → s.deferredCommit.isSome
  release : s.deferredRelease.isSome ↔ s.hold.waitsByRequest
  answers : AnswersBounded s
  engine : EngineConsistent s
  tables : TablesCompiled s

theorem CommitEnding.agreed {s : State} (h : CommitEnding s) (r : Reply) : Agreed (s.endCommit r) := by
  rcases s.endCommit_cases r with ⟨hnone, heq⟩ | ⟨rq, hrq, heq⟩ <;> rw [heq]
  · exact ⟨{ h with
      commit := by simp [hnone, h.phase]
      pendingLayouts := by simp [h.pendingLayouts, h.phase] }, h.answers, h.engine, h.tables⟩
  · refine ⟨?_, h.answers.ended (u := { s with deferredCommit := none, commitEnumerated := false }) rfl
      (deferredCount_endCommit hrq rfl rfl) .., ?_, ?_⟩ <;> rw [State.answerAs_eq]
    · exact {
        commit := by simp [h.phase]
        enumerated := nofun
        release := h.release
        pendingLayouts := by simp [h.pendingLayouts, h.phase] }
    · exact { h.engine with }
    · exact { h.tables with }

/-- A hold that waits no more by request, and whose deferred RELEASE_HOLD, if any, is still to be answered. -/
structure ReleaseEnding (s : State) : Prop where
  waits : s.hold.waitsByRequest = false
  commit : s.deferredCommit.isSome ↔ s.phase ≠ .idle
  enumerated : s.commitEnumerated = true → s.deferredCommit.isSome
  pendingLayouts : s.pendingLayouts.isSome ↔ s.phase = .swapPending
  answers : AnswersBounded s
  engine : EngineConsistent s
  tables : TablesCompiled s

theorem ReleaseEnding.agreed {s : State} (h : ReleaseEnding s) (r : Reply) : Agreed (s.endRelease r) := by
  rcases s.endRelease_cases r with ⟨hnone, heq⟩ | ⟨rq, hrq, heq⟩ <;> rw [heq]
  · exact ⟨{ h with release := by simp [hnone, h.waits] }, h.answers, h.engine, h.tables⟩
  · refine ⟨?_, h.answers.ended (u := { s with deferredRelease := none }) rfl
      (deferredCount_endRelease hrq rfl rfl) .., ?_, ?_⟩ <;> rw [State.answer, State.answerAs_eq]
    · exact { h with release := by simp [h.waits] }
    · exact { h.engine with }
    · exact { h.tables with }

/-- Freeing an ingress entry changes the ingress buffer, the grants and the outstanding count alone. -/
theorem State.freeIngress_eq (s : State) :
    s.freeIngress = { s with
      outstanding := s.freeIngress.outstanding, grants := s.freeIngress.grants, ingress := s.freeIngress.ingress } := by
  rcases s.freeIngress_cases with ⟨-, -, heq⟩ | ⟨-, heq⟩ <;> rw [heq]

namespace Agreed
variable {s : State}

/-! ## The links and the answer list -/

theorem links (h : Agreed s) {t : State} (hlinks : ControlKept s t) : Agreed t := by
  have hingress := hlinks.ingress
  rw [hlinks.eq]
  exact ⟨{ h.deferred with }, { h.answers with }, { h.engine with frame := fun c hc => hingress (h.engine.frame c hc) },
    { h.tables with }⟩

theorem placeReport (h : Agreed s) : Agreed s.placeReport := by
  have hreport (f : AgentFrame) : (if f.isReport then AgentFrame.report s.nodeAddress else f).isReport = f.isReport := by
    cases f <;> rfl
  unfold State.placeReport
  split
  · exact ⟨{ h.deferred with }, {
      answers := by simpa [State.deferredCount, List.filter_map, Function.comp_def, hreport] using h.answers.answers
      reports := by simpa [List.filter_map, Function.comp_def, hreport] using h.answers.reports },
      { h.engine with }, { h.tables with }⟩
  · next hnone =>
    have hreports : s.answers.filter (·.isReport) = [] := by simpa using hnone
    rcases s.place_cases (.report s.nodeAddress) with ⟨-, -, heq⟩ | ⟨-, heq⟩ <;> rw [heq]
    · exact ⟨{ h.deferred with }, { h.answers with }, { h.engine with }, { h.tables with }⟩
    · exact ⟨{ h.deferred with }, {
        answers := by simpa [State.deferredCount, AgentFrame.isReport] using h.answers.answers
        reports := by
          show ((s.answers ++ [AgentFrame.report s.nodeAddress]).filter (·.isReport)).length ≤ 1
          rw [List.filter_append, hreports]; exact Nat.le_refl 1 }, { h.engine with }, { h.tables with }⟩

theorem enumerated (h : Agreed s) (carried : Address) : Agreed (enumerated carried s) := by
  have hnamed : Agreed { s with
      nodeAddress := takenAddress carried, cache := [], commitEnumerated := s.deferredCommit.isSome } :=
    ⟨{ h.deferred with enumerated := id }, { h.answers with }, { h.engine with }, { h.tables with }⟩
  unfold Machine.enumerated
  refine .links ?_ (.offerForward ..)
  split
  · exact hnamed
  · exact hnamed.placeReport

theorem answerListEntry (h : Agreed s) : Agreed (answerListEntry s) := by
  unfold Machine.answerListEntry
  split
  · next f rest hanswers =>
    split
    · have hle (p : AgentFrame → Bool) : (rest.filter p).length ≤ (s.answers.filter p).length := by
        rw [hanswers]; exact ((List.sublist_cons_self f rest).filter p).length_le
      exact ⟨{ h.deferred with }, {
        answers := (Nat.add_le_add_right (hle _) _).trans h.answers.answers
        reports := (hle _).trans h.answers.reports }, { h.engine with }, { h.tables with }⟩
    · exact h
  · exact h

/-! ## The engine -/

/-- A state that differs in its engine, in a hold that waits by request as before, and in what does not matter here. -/
theorem setEngine (h : Agreed s) {t : State} (hengine : EngineConsistent t) (hwaits : t.hold.waitsByRequest = s.hold.waitsByRequest)
    (heq : t = { s with
      outstanding := t.outstanding, grants := t.grants, ingress := t.ingress, outQueue := t.outQueue, engine := t.engine
      runtime := t.runtime, sticky := t.sticky, hold := t.hold, exc := t.exc, engineCounters := t.engineCounters
      holdCounters := t.holdCounters }) : Agreed t := by
  refine ⟨?_, ?_, hengine, ?_⟩ <;> rw [heq]
  · exact { h.deferred with release := by simpa only [hwaits] using h.deferred.release }
  · exact { h.answers with }
  · exact { h.tables with }

theorem beginConversion (h : Agreed s) {f : Frame} {rest : List Frame} (hfront : s.ingress = f :: rest) (i : Fin 8) :
    Agreed (beginConversion i f s) := by
  unfold Machine.beginConversion
  rw [takeChecks_eq]
  refine h.setEngine ⟨fun _ _ => ?_, fun c hc => ?_, fun c hc => ?_⟩ rfl rfl
  · simp [hfront]
  · cases hc; rfl
  · cases hc; exact List.length_replicate

theorem engineTake (h : Agreed s) : Agreed (engineTake s) := by
  unfold Machine.engineTake
  split
  · exact h
  · next f rest hfront =>
    split
    · next hallowed =>
      have hidle : s.engine = .idle := by
        simp only [takeAllowed, Bool.and_eq_true, beq_iff_eq] at hallowed; exact hallowed.1.1.1
      split
      · unfold forwardConditioned
        rw [State.freeIngress_eq]
        exact h.setEngine (.of_idle hidle) rfl rfl
      · split
        · unfold settleUnmatched
          rw [State.freeIngress_eq]
          split <;> exact h.setEngine (.of_idle hidle) rfl rfl
        · exact h.beginConversion hfront _
    · exact h

end Agreed

theorem length_writeWords (payload : List Word) (offset : Nat) (ws : List Word) :
    (writeWords payload offset ws).length = payload.length := by
  induction ws generalizing payload offset with
  | nil => rfl
  | cons w ws ih => rw [writeWords, ih, List.length_set]

/-- A condition changes the exception unit and the sticky flags alone. -/
theorem takeCondition_eq (c : Conversion) (inputSeq : Seq) (owner : Fin 128) (stored : List Word) (k : Condition) (s : State) :
    takeCondition c inputSeq owner stored k s = { s with
      exc := (takeCondition c inputSeq owner stored k s).exc, sticky := (takeCondition c inputSeq owner stored k s).sticky } := by
  unfold takeCondition
  dsimp only
  split <;> rfl

/-- A settled slot changes the engine, the exception unit and the sticky flags alone. -/
theorem slotConversion_eq (s : State) :
    slotConversion s = { s with
      engine := (slotConversion s).engine, exc := (slotConversion s).exc, sticky := (slotConversion s).sticky } := by
  unfold slotConversion
  split
  · split
    · rfl
    · dsimp only
      split
      · rfl
      · rw [takeCondition_eq]
  · rfl

/-- The destination of a completed frame: the output queue or the hold, with the record of a refusal. -/
theorem sendCompleted_eq (c : Conversion) (g : CondFrame) (s : State) :
    sendCompleted c g s = { s with
      outQueue := (sendCompleted c g s).outQueue, exc := (sendCompleted c g s).exc, hold := (sendCompleted c g s).hold
      holdCounters := (sendCompleted c g s).holdCounters } ∧
    (sendCompleted c g s).hold.waitsByRequest = s.hold.waitsByRequest := by
  unfold sendCompleted
  split
  · split
    · next hempty => exact ⟨rfl, by simp [hempty, enterHold, Hold.waitsByRequest]⟩
    · exact ⟨rfl, rfl⟩
    · exact ⟨rfl, rfl⟩
  · exact ⟨rfl, rfl⟩

/-- A completion leaves the state as it is, or changes what the frame and its counters touch and makes the engine IDLE. -/
theorem conversionCompletion_cases (s : State) :
    conversionCompletion s = s ∨
    (conversionCompletion s).engine = .idle ∧
    (conversionCompletion s).hold.waitsByRequest = s.hold.waitsByRequest ∧
    conversionCompletion s = { s with
      outstanding := (conversionCompletion s).outstanding, grants := (conversionCompletion s).grants
      ingress := (conversionCompletion s).ingress, outQueue := (conversionCompletion s).outQueue
      engine := (conversionCompletion s).engine, runtime := (conversionCompletion s).runtime
      hold := (conversionCompletion s).hold, exc := (conversionCompletion s).exc
      engineCounters := (conversionCompletion s).engineCounters, holdCounters := (conversionCompletion s).holdCounters } := by
  unfold conversionCompletion
  split
  · next c f rest _ _ =>
    split
    · exact .inl rfl
    · dsimp only
      generalize completedFrame c f s = g
      have hfreed := State.freeIngress_eq ((s.setRuntime c.stream { s.runtime.get c.stream with
        nextOutput := (s.runtime.get c.stream).nextOutput + 1 }).countStream c.stream (·.complete c.exception))
      generalize State.freeIngress _ = u at hfreed ⊢
      obtain ⟨hsent, hwaits⟩ := sendCompleted_eq c g u
      generalize sendCompleted c g u = t at hsent hwaits ⊢
      refine .inr ⟨rfl, hwaits.trans (by rw [hfreed]; rfl), ?_⟩
      rw [hsent, hfreed]
      rfl
  · exact .inl rfl

namespace Agreed
variable {s : State}

theorem slotConversion (h : Agreed s) : Agreed (slotConversion s) := by
  refine h.setEngine ?_ (by rw [slotConversion_eq]) (by rw [slotConversion_eq])
  unfold Machine.slotConversion
  split
  · next c f rest hengine _ =>
    split
    · exact h.engine
    · have hsettled (e : SlotEntry) (more : List SlotEntry) (r : Settled) :
          EngineConsistent { s with engine := .converting (c.afterSlot e more r) } := {
        frame := fun _ _ => h.engine.frame c hengine
        generation := fun _ hc => by cases hc; exact h.engine.generation c hengine
        payload := fun _ hc => by cases hc; exact (length_writeWords ..).trans (h.engine.payload c hengine) }
      dsimp only
      split
      · exact hsettled ..
      · rw [takeCondition_eq]; exact { hsettled .. with }
  · exact h.engine

theorem conversionCompletion (h : Agreed s) : Agreed (conversionCompletion s) := by
  rcases conversionCompletion_cases s with heq | ⟨hidle, hwaits, heq⟩
  · exact heq.symm ▸ h
  · exact h.setEngine (.of_idle hidle) hwaits (by rw [heq])

/-! ## The hold and the timers -/

/-- A hold that waits by request neither before nor after. -/
theorem setHold (h : Agreed s) (hs : s.hold.waitsByRequest = false) {t : State} (ht : t.hold.waitsByRequest = false)
    (heq : t = { s with hold := t.hold, outQueue := t.outQueue, holdCounters := t.holdCounters }) : Agreed t := by
  refine h.setEngine ?_ (ht.trans hs.symm) (by rw [heq])
  rw [heq]
  exact { h.engine with }

theorem releaseHeld_timeout (h : Agreed s) (hs : s.hold.waitsByRequest = false) (f : CondFrame) :
    Agreed (releaseHeld f .timeout s) := by
  unfold releaseHeld
  split <;> exact h.setHold hs rfl rfl

theorem holdTimerExpiry (h : Agreed s) : Agreed (holdTimerExpiry s) := by
  unfold Machine.holdTimerExpiry
  split
  · next hhold =>
    have hs : s.hold.waitsByRequest = false := by rw [hhold]; rfl
    have hcounted (k : HoldCounters) : Agreed { s with holdCounters := k } := h.setHold hs hs rfl
    exact (hcounted { s.holdCounters with timeouts := satInc s.holdCounters.timeouts }).releaseHeld_timeout hs _
  · exact h
  · exact h
  · exact h

theorem releaseEntry (h : Agreed s) : Agreed (releaseEntry s) := by
  unfold Machine.releaseEntry
  split
  · next f reason hhold =>
    split
    · cases reason with
      | request =>
        have hending : ReleaseEnding ({ s with hold := .empty }.enterOutput (.conditioned f)) :=
          { h.deferred with waits := rfl, answers := { h.answers with }, engine := { h.engine with }, tables := { h.tables with } }
        exact hending.agreed _
      | timeout => exact h.setHold (by rw [hhold]; rfl) rfl rfl
    · exact h
  · exact h
  · exact h

theorem setExc (h : Agreed s) (x : ExceptionUnit) : Agreed { s with exc := x } :=
  h.setEngine { h.engine with } rfl rfl

theorem tick (h : Agreed s) : Agreed (tick s) := by
  have hreminder : Agreed (tickReminder s) := by
    unfold tickReminder
    split <;> exact h.setExc _
  have hcoalescing : Agreed (tickCoalescing (tickReminder s)) := by
    unfold tickCoalescing
    split <;> exact hreminder.setExc _
  unfold Machine.tick tickHold
  split
  · next hhold =>
    split
    · exact hcoalescing.holdTimerExpiry
    · exact hcoalescing.setHold (by rw [hhold]; rfl) rfl rfl
  · exact hcoalescing
  · exact hcoalescing

/-! ## Commit and resets -/

/-- A commit that is given up: the phase and the pending layouts are set back, and the COMMIT is answered. -/
theorem giveUp (h : Agreed s) (r : Reply) : Agreed ({ s with phase := .idle, pendingLayouts := none }.endCommit r) := by
  have hending : CommitEnding { s with phase := .idle, pendingLayouts := none } := { h.deferred with
    phase := rfl, pendingLayouts := rfl, answers := { h.answers with }, engine := { h.engine with }
    tables := { h.tables with pendingLayouts := nofun, pendingSound := nofun } }
  exact hending.agreed r

theorem validationFailure (h : Agreed s) : Agreed (validationFailure s) := by
  unfold Machine.validationFailure
  split
  · exact h.giveUp _
  · exact h

theorem compilationEnd (h : Agreed s) : Agreed (compilationEnd s) := by
  unfold Machine.compilationEnd
  split
  · next hphase hvalid =>
    exact ⟨{ h.deferred with
        commit := by simpa [hphase] using h.deferred.commit
        pendingLayouts := by simp },
      { h.answers with }, { h.engine with }, { h.tables with pendingLayouts := fun _ => rfl, pendingSound := fun _ => hvalid }⟩
  · exact h

theorem swap (h : Agreed s) : Agreed (swap s) := by
  unfold Machine.swap
  split
  · next layouts hphase hengine hpending =>
    have hlayouts : layouts = compileLayouts s.shadow := Option.some.inj (hpending.symm.trans (h.tables.pendingLayouts hphase))
    have hending : CommitEnding { s with
        active := s.shadow, layouts := layouts, pendingLayouts := none, generation := nextGeneration s.generation
        runtime := runtimeAfterSwap s.active s.shadow s.runtime, phase := .idle } := { h.deferred with
      phase := rfl, pendingLayouts := rfl, answers := { h.answers with }, engine := .of_idle hengine
      tables := {
        layouts := hlayouts, sound := h.tables.pendingSound hphase, pendingLayouts := nofun, pendingSound := nofun } }
    exact hending.agreed _
  · exact h

theorem abandonCommit (h : Agreed s) : Agreed (abandonCommit s) := by
  unfold Machine.abandonCommit
  split
  · exact h
  · exact h.giveUp _
  · exact h.giveUp _

theorem dropHold (h : Agreed s) : Agreed (dropHold s) := by
  have hending (k : HoldCounters) : ReleaseEnding { s with hold := .empty, holdCounters := k } :=
    { h.deferred with waits := rfl, answers := { h.answers with }, engine := { h.engine with }, tables := { h.tables with } }
  unfold Machine.dropHold
  split
  · exact h
  · exact (hending _).agreed _
  · exact (hending _).agreed _

theorem emptyDataPath (h : Agreed s) : Agreed (emptyDataPath s) := by
  unfold Machine.emptyDataPath
  dsimp only
  split <;> exact h.setEngine (.of_idle rfl) rfl rfl

theorem pipelineReset (h : Agreed s) : Agreed (pipelineReset s) := h.abandonCommit.dropHold.emptyDataPath

theorem exceptionReset (h : Agreed s) : Agreed (exceptionReset s) := h.setEngine { h.engine with } rfl rfl

end Agreed

theorem State.endCommit_phase (s : State) (r : Reply) : (s.endCommit r).phase = s.phase := (s.endCommit_keeps r).2.2

theorem State.endRelease_phase (s : State) (r : Reply) : (s.endRelease r).phase = s.phase := by
  rcases s.endRelease_cases r with ⟨-, heq⟩ | ⟨rq, -, heq⟩ <;> rw [heq]
  rw [State.answer_eq]

/-- A RESET PIPELINE leaves no commit in progress and no conversion under way (R72, R109). -/
theorem pipelineReset_idle (s : State) : (pipelineReset s).phase = .idle ∧ (pipelineReset s).engine = .idle := by
  have habandoned : (abandonCommit s).phase = .idle := by
    unfold abandonCommit
    split
    · assumption
    · exact State.endCommit_phase ..
    · exact State.endCommit_phase ..
  have hdropped : (dropHold (abandonCommit s)).phase = .idle := by
    unfold dropHold
    split
    · exact habandoned
    · exact (State.endRelease_phase ..).trans habandoned
    · exact (State.endRelease_phase ..).trans habandoned
  unfold pipelineReset emptyDataPath
  dsimp only
  split <;> exact ⟨hdropped, rfl⟩

namespace Agreed
variable {s : State}

theorem fullReset (h : Agreed s) : Agreed (fullReset s) := by
  obtain ⟨hphase, hengine⟩ := pipelineReset_idle s
  have hreset := h.pipelineReset.exceptionReset
  have hnot : ¬ (Machine.fullReset s).phase = .swapPending := by
    show ¬ (Machine.pipelineReset s).phase = .swapPending
    rw [hphase]; exact nofun
  exact ⟨{ hreset.deferred with }, { hreset.answers with }, .of_idle hengine, {
    layouts := tables_reset.2, sound := tables_reset.1
    pendingLayouts := fun hp => absurd hp hnot, pendingSound := fun hp => absurd hp hnot }⟩

/-- A RESET PIPELINE answers what it abandons, and there is room for its own answer. -/
theorem room_pipelineReset (h : Agreed s) (hroom : RoomForAnswer s) : RoomForAnswer (Machine.pipelineReset s) := by
  have habandoned : RoomForAnswer (Machine.abandonCommit s) := by
    have hending : RoomForAnswer ({ s with phase := .idle, pendingLayouts := none }.endCommit ⟨.aborted, []⟩) :=
      RoomForAnswer.endCommit (s := { s with phase := .idle, pendingLayouts := none }) hroom { h.answers with } _
    unfold Machine.abandonCommit
    split
    · exact hroom
    · exact hending
    · exact hending
  have hdropped : RoomForAnswer (Machine.dropHold (Machine.abandonCommit s)) := by
    have hending (k : HoldCounters) :
        RoomForAnswer ({ Machine.abandonCommit s with hold := .empty, holdCounters := k }.endRelease ⟨.aborted, []⟩) :=
      RoomForAnswer.endRelease (s := { Machine.abandonCommit s with hold := .empty, holdCounters := k }) habandoned
        { h.abandonCommit.answers with } _
    unfold Machine.dropHold
    split
    · exact habandoned
    · exact hending _
    · exact hending _
  unfold Machine.pipelineReset Machine.emptyDataPath
  dsimp only
  split <;> exact hdropped

theorem room_fullReset (h : Agreed s) (hroom : RoomForAnswer s) : RoomForAnswer (Machine.fullReset s) :=
  (h.room_pipelineReset hroom).congr rfl rfl rfl rfl

theorem reset : Agreed State.reset where
  deferred := { commit := by decide, enumerated := by decide, release := by decide, pendingLayouts := by decide }
  answers := { answers := by decide, reports := by decide }
  engine := .of_idle rfl
  tables := { layouts := tables_reset.2, sound := tables_reset.1, pendingLayouts := nofun, pendingSound := nofun }

theorem event (h : Agreed s) {t : State} (heffect : EventEffect s t) : Agreed t := by
  cases heffect with
  | deviceReset => exact ⟨{ reset.deferred with }, { reset.answers with }, { reset.engine with }, { reset.tables with }⟩
  | links hlinks => exact h.links hlinks
  | enumerated hlinks carried => exact (h.links hlinks).enumerated carried
  | answerListEntry => exact h.answerListEntry
  | engineTake => exact h.engineTake
  | slotConversion => exact h.slotConversion
  | conversionCompletion => exact h.conversionCompletion
  | holdTimerExpiry => exact h.holdTimerExpiry
  | releaseEntry => exact h.releaseEntry
  | coalescingTimerExpiry => exact h.setExc _
  | reminderTimerExpiry => exact h.setExc _
  | validationFailure => exact h.validationFailure
  | compilationEnd => exact h.compilationEnd
  | swap => exact h.swap

/-! ## The agent -/

/-- A state that differs in the shadow bank, outside a commit. -/
theorem setShadow (h : Agreed s) (hphase : s.phase = .idle) (b : Bank) : Agreed { s with shadow := b } := by
  have hnot : ¬ s.phase = .swapPending := by rw [hphase]; exact nofun
  exact ⟨{ h.deferred with }, { h.answers with }, { h.engine with },
    { h.tables with pendingLayouts := fun hp => absurd hp hnot, pendingSound := fun hp => absurd hp hnot }⟩

theorem beginCommit (h : Agreed s) (hanswers : s.answers = []) (hphase : s.phase = .idle) (rq : Request) :
    Agreed { s with phase := .compiling, deferredCommit := some rq, commitEnumerated := false } := by
  have hnone : s.pendingLayouts = none := by simpa [hphase] using h.deferred.pendingLayouts
  exact ⟨{ h.deferred with commit := by simp, enumerated := nofun, pendingLayouts := by simp [hnone] },
    { h.answers with answers := by simp [hanswers, State.deferredCount]; split <;> omega },
    { h.engine with }, { h.tables with pendingLayouts := nofun, pendingSound := nofun }⟩

theorem deferRelease (h : Agreed s) (hanswers : s.answers = []) (g : CondFrame) (rq : Request) :
    Agreed { s with hold := .releasing g .request, deferredRelease := some rq } :=
  ⟨{ h.deferred with release := by simp [Hold.waitsByRequest] },
    { h.answers with answers := by simp [hanswers, State.deferredCount]; split <;> omega },
    { h.engine with }, { h.tables with }⟩

theorem bodyEffect (h : Agreed s) (hanswers : s.answers = []) {rq : Request} {e : RowEffect} {t : State} {r : Option Reply}
    (heffect : BodyEffect rq s e (t, r)) : Agreed t := by
  cases heffect with
  | answers => exact h
  | writesShadow b _ hphase => exact h.setShadow hphase b
  | commits hphase => exact h.beginCommit hanswers hphase rq
  | acknowledges => exact h.setExc _
  | clearsSticky => exact h.setEngine { h.engine with } rfl rfl
  | forwards _ hhold | discards _ _ hhold => exact h.setHold (by rw [hhold]; rfl) rfl rfl
  | waits => exact h.deferRelease hanswers _ rq
  | clearsCounters g =>
    cases g <;> exact ⟨{ h.deferred with }, { h.answers with }, { h.engine with }, { h.tables with }⟩
  | setsParameter => exact ⟨{ h.deferred with }, { h.answers with }, { h.engine with }, { h.tables with }⟩
  | resetsPipeline => exact h.pipelineReset
  | resetsExceptions => exact h.exceptionReset
  | resetsAll => exact h.fullReset

/-- The body that answers leaves the room for its answer. -/
theorem room_bodyEffect (h : Agreed s) (hanswers : s.answers = []) (hresponses : s.responses.length < 2) {rq : Request}
    {e : RowEffect} {t : State} {r : Reply} (heffect : BodyEffect rq s e (t, some r)) : RoomForAnswer t := by
  have hready : RoomForAnswer s := .inl ⟨hanswers, hresponses⟩
  cases heffect with
  | clearsCounters g => cases g <;> exact .inl ⟨hanswers, hresponses⟩
  | resetsPipeline => exact h.room_pipelineReset hready
  | resetsAll => exact h.room_fullReset hready
  | _ => exact .inl ⟨hanswers, hresponses⟩

theorem answer (h : Agreed s) (hroom : RoomForAnswer s) (rq : Request) (r : Reply) : Agreed (s.answer rq r) := by
  refine ⟨?_, h.answers.answerAs hroom .., ?_, ?_⟩ <;> rw [State.answer_eq]
  · exact { h.deferred with }
  · exact { h.engine with }
  · exact { h.tables with }

theorem agentTake (h : Agreed s) {row : Request → Bool} {body : CommandBody} {rq : Request} {e : RowEffect}
    (heffect : row rq = true → ∀ u, BodyEffect rq u e (body rq u)) : Agreed (agentTake row body rq s) := by
  refine agentTake_keeps heffect (fun u rest hu _ => ?_) (fun u _ hu _ => ?_)
    (fun _ _ _ hu hanswers hresponses hb => (hu.bodyEffect hanswers hb).answer (hu.room_bodyEffect hanswers hresponses hb) ..)
    (fun _ _ hu hanswers hb => hu.bodyEffect hanswers hb) h <;>
  exact ⟨{ hu.deferred with }, { hu.answers with }, { hu.engine with }, { hu.tables with }⟩

end Agreed

/-- Settles O58: every command and the passing of a millisecond keep the blocks in agreement. -/
theorem commitAndEngineAgree : Obligations.CommitAndEngineAgree := by
  intro s t hdeferred hanswers hengine htables hstep
  have ht : Agreed t := step_keeps
    (fun _ _ h => ⟨{ h.deferred with }, { h.answers with }, { h.engine with }, { h.tables with }⟩) (fun _ h => h.tick)
    (fun _ _ _ h hexec => exec_keeps (fun _ _ h heffect => h.event heffect) (fun _ _ _ _ _ h heffect => h.agentTake heffect) h hexec)
    ⟨hdeferred, hanswers, hengine, htables⟩ hstep
  exact ⟨ht.deferred, ht.answers, ht.engine, ht.tables⟩

/-- Settles O59: the reset state meets the three invariants that every step keeps. -/
theorem resetStateIsSafe : Obligations.ResetStateIsSafe :=
  have hunit := NoticesSound.reset.unit
  ⟨Bounded.reset.toWithinCapacity, Bounded.reset.toCreditsHonest,
    { NoticesSound.reset with coalescing := hunit.coalescingReach, reminder := hunit.reminderReach },
    hunit.toNoticeConsistent, hunit.toRecordsConsecutive, NoticesSound.reset.cached,
    Agreed.reset.deferred, Agreed.reset.answers, Agreed.reset.engine, Agreed.reset.tables⟩

end Sys2Proof.Machine
end


section
/-! Which commands may change the banks, the generation, the sticky flags, the parameters and the node address (Figure 2; R93, R96,
R163, R165, R175). -/

namespace Sys2Proof.Machine

set_option Elab.async false

/-- What a command may change of the banks with the generation, the sticky flags, the parameters and the node address. -/
inductive NamedChange where
  | nothing | tables | shadow | sticky | params | address | fullReset | deviceReset

/-- The two resets that set back all of these but, for a RESET ALL, the node address. -/
def NamedChange.Resets (c : NamedChange) : Prop := c = .fullReset ∨ c = .deviceReset

def namedChange : Instr → NamedChange
  | .deviceReset => .deviceReset
  | .swap => .tables
  | .slotConversion | .clearSticky _ | .resetExceptions _ => .sticky
  | .cReceiveFrameEnd | .enumerate _ => .address
  | .writeChannel _ | .writeStream _ | .writeClass _ | .copyActive _ => .shadow
  | .setParameter _ => .params
  | .resetAll _ => .fullReset
  | _ => .nothing

/-- The change that the effect of a request row allows. -/
def RowEffect.change : RowEffect → NamedChange
  | .writesShadow => .shadow
  | .clearsSticky | .resetsExceptions => .sticky
  | .setsParameter => .params
  | .resetsAll => .fullReset
  | _ => .nothing

theorem namedChange_request {i : Instr} {rq : Request} (h : i.request? = some rq) : namedChange i = (rowEffect i).change := by
  cases i <;> simp_all [namedChange, rowEffect, RowEffect.change, Instr.request?]

/-- The two states have the same banks, generation, sticky flags, parameters and node address. -/
structure SameNamed (s t : State) : Prop where
  generation : t.generation = s.generation
  active : t.active = s.active
  shadow : t.shadow = s.shadow
  sticky : t.sticky = s.sticky
  params : t.params = s.params
  address : t.nodeAddress = s.nodeAddress

/-- Two states that differ, of these, at most in what the change allows; the shadow bank differs only where the first is in phase
IDLE, and a generation other than 0 is not lost. -/
structure NamedKept (c : NamedChange) (s t : State) : Prop where
  tables : c ≠ .tables → ¬ c.Resets → t.generation = s.generation ∧ t.active = s.active
  generation : ¬ c.Resets → s.generation ≠ 0 → t.generation ≠ 0
  shadow : (c = .shadow → s.phase ≠ .idle) → ¬ c.Resets → t.shadow = s.shadow
  sticky : c ≠ .sticky → ¬ c.Resets → t.sticky = s.sticky
  params : c ≠ .params → ¬ c.Resets → t.params = s.params
  address : c ≠ .address → c ≠ .deviceReset → t.nodeAddress = s.nodeAddress
  phase : c = .shadow → t.phase = s.phase

namespace SameNamed
variable {s t u : State}

theorem refl (s : State) : SameNamed s s := ⟨rfl, rfl, rfl, rfl, rfl, rfl⟩

theorem trans (h : SameNamed s t) (h' : SameNamed t u) : SameNamed s u :=
  ⟨h'.generation.trans h.generation, h'.active.trans h.active, h'.shadow.trans h.shadow, h'.sticky.trans h.sticky,
    h'.params.trans h.params, h'.address.trans h.address⟩

theorem kept (h : SameNamed s t) (c : NamedChange) (hphase : c = .shadow → t.phase = s.phase) : NamedKept c s t where
  tables := fun _ _ => ⟨h.generation, h.active⟩
  generation := fun _ hs => h.generation ▸ hs
  shadow := fun _ _ => h.shadow
  sticky := fun _ _ => h.sticky
  params := fun _ _ => h.params
  address := fun _ _ => h.address
  phase := hphase

/-! ## Shared operations and the commands that change nothing of these -/

theorem links (h : ControlKept s t) : SameNamed s t := by
  rw [h.eq]
  exact ⟨rfl, rfl, rfl, rfl, rfl, rfl⟩

theorem answerAs (s : State) (crossed : Bool) (rq : Request) (r : Reply) : SameNamed s (s.answerAs crossed rq r) := by
  rw [State.answerAs_eq]
  exact ⟨rfl, rfl, rfl, rfl, rfl, rfl⟩

theorem endCommit (s : State) (r : Reply) : SameNamed s (s.endCommit r) := by
  rcases s.endCommit_cases r with ⟨-, heq⟩ | ⟨rq, -, heq⟩ <;> rw [heq]
  · exact .refl s
  · exact { answerAs { s with deferredCommit := none, commitEnumerated := false } _ rq r with }

theorem endRelease (s : State) (r : Reply) : SameNamed s (s.endRelease r) := by
  rcases s.endRelease_cases r with ⟨-, heq⟩ | ⟨rq, -, heq⟩ <;> rw [heq]
  · exact .refl s
  · exact { answerAs { s with deferredRelease := none } false rq r with }

theorem answerListEntry (s : State) : SameNamed s (answerListEntry s) := by
  unfold Machine.answerListEntry
  split
  · split <;> exact ⟨rfl, rfl, rfl, rfl, rfl, rfl⟩
  · exact .refl s

theorem freeIngress (s : State) : SameNamed s s.freeIngress := by
  rw [State.freeIngress_eq]
  exact ⟨rfl, rfl, rfl, rfl, rfl, rfl⟩

theorem takeChecks (i : Fin 8) (f : Frame) (s : State) : SameNamed s (lengthCheck i f (gapCheck i f s)) := by
  rw [takeChecks_eq]
  exact ⟨rfl, rfl, rfl, rfl, rfl, rfl⟩

theorem engineTake (s : State) : SameNamed s (engineTake s) := by
  unfold Machine.engineTake
  split
  · exact .refl s
  · next f _ _ =>
    split
    · split
      · exact { freeIngress s with }
      · split
        · unfold settleUnmatched
          split <;> exact { freeIngress s with }
        · next i _ => exact { takeChecks i f s with }
    · exact .refl s

theorem conversionCompletion (s : State) : SameNamed s (conversionCompletion s) := by
  rcases conversionCompletion_cases s with heq | ⟨-, -, heq⟩ <;> rw [heq] <;> exact ⟨rfl, rfl, rfl, rfl, rfl, rfl⟩

theorem holdTimerExpiry (s : State) : SameNamed s (holdTimerExpiry s) := by
  unfold Machine.holdTimerExpiry releaseHeld
  split
  · dsimp only
    split <;> exact ⟨rfl, rfl, rfl, rfl, rfl, rfl⟩
  all_goals exact .refl s

theorem releaseEntry (s : State) : SameNamed s (releaseEntry s) := by
  unfold Machine.releaseEntry
  split
  · next f reason _ =>
    have hentered : SameNamed s ({ s with hold := .empty }.enterOutput (.conditioned f)) := ⟨rfl, rfl, rfl, rfl, rfl, rfl⟩
    split
    · cases reason with
      | timeout => exact hentered
      | request => exact hentered.trans (endRelease ..)
    · exact .refl s
  all_goals exact .refl s

theorem tick (s : State) : SameNamed s (tick s) := by
  have hreminder : SameNamed s (tickReminder s) := by unfold tickReminder; split <;> exact ⟨rfl, rfl, rfl, rfl, rfl, rfl⟩
  have hcoalescing (u : State) : SameNamed u (tickCoalescing u) := by
    unfold tickCoalescing; split <;> exact ⟨rfl, rfl, rfl, rfl, rfl, rfl⟩
  have hhold (u : State) : SameNamed u (tickHold u) := by
    unfold tickHold
    split
    · split
      · exact holdTimerExpiry u
      · exact ⟨rfl, rfl, rfl, rfl, rfl, rfl⟩
    all_goals exact .refl u
  exact hreminder.trans ((hcoalescing _).trans (hhold _))

theorem validationFailure (s : State) : SameNamed s (validationFailure s) := by
  unfold Machine.validationFailure
  split
  · exact { endCommit { s with phase := .idle, pendingLayouts := none } _ with }
  · exact .refl s

theorem compilationEnd (s : State) : SameNamed s (compilationEnd s) := by
  unfold Machine.compilationEnd
  split <;> exact ⟨rfl, rfl, rfl, rfl, rfl, rfl⟩

theorem abandonCommit (s : State) : SameNamed s (abandonCommit s) := by
  unfold Machine.abandonCommit
  split
  · exact .refl s
  all_goals exact { endCommit { s with phase := .idle, pendingLayouts := none } _ with }

theorem dropHold (s : State) : SameNamed s (dropHold s) := by
  have hended (k : HoldCounters) : SameNamed s ({ s with hold := .empty, holdCounters := k }.endRelease ⟨.aborted, []⟩) :=
    { endRelease { s with hold := .empty, holdCounters := k } _ with }
  unfold Machine.dropHold
  split
  · exact .refl s
  all_goals exact hended _

theorem emptyDataPath (s : State) : SameNamed s (emptyDataPath s) := by
  unfold Machine.emptyDataPath
  dsimp only
  split <;> exact ⟨rfl, rfl, rfl, rfl, rfl, rfl⟩

theorem pipelineReset (s : State) : SameNamed s (pipelineReset s) :=
  (abandonCommit s).trans ((dropHold _).trans (emptyDataPath _))

end SameNamed

namespace NamedKept
variable {c : NamedChange} {s t u : State}

theorem nothing (h : SameNamed s t) : NamedKept .nothing s t := h.kept _ nofun

theorem trans (h : NamedKept c s t) (h' : NamedKept c t u) : NamedKept c s u where
  tables := fun hc hr => ⟨(h'.tables hc hr).1.trans (h.tables hc hr).1, (h'.tables hc hr).2.trans (h.tables hc hr).2⟩
  generation := fun hr hs => h'.generation hr (h.generation hr hs)
  shadow := fun hc hr => (h'.shadow (fun heq => h.phase heq ▸ hc heq) hr).trans (h.shadow hc hr)
  sticky := fun hc hr => (h'.sticky hc hr).trans (h.sticky hc hr)
  params := fun hc hr => (h'.params hc hr).trans (h.params hc hr)
  address := fun hc hr => (h'.address hc hr).trans (h.address hc hr)
  phase := fun hc => (h'.phase hc).trans (h.phase hc)

/-! ## The commands that change some of these -/

theorem swap (s : State) : NamedKept .tables s (swap s) := by
  have hnext (g : Seq) : nextGeneration g = 0 → g = 0 := by
    unfold nextGeneration
    split
    · exact fun h => absurd h (by decide)
    · intro h; bv_omega
  unfold Machine.swap
  split
  · next layouts _ _ _ =>
    have hended := SameNamed.endCommit { s with
      active := s.shadow, layouts := layouts, pendingLayouts := none, generation := nextGeneration s.generation
      runtime := runtimeAfterSwap s.active s.shadow s.runtime, phase := .idle } ⟨.ok, [0#16 ++ nextGeneration s.generation]⟩
    exact {
      tables := fun h => absurd rfl h
      generation := fun _ hs hzero => hs (hnext _ (hended.generation.symm.trans hzero))
      shadow := fun _ _ => hended.shadow
      sticky := fun _ _ => hended.sticky
      params := fun _ _ => hended.params
      address := fun _ _ => hended.address
      phase := nofun }
  · exact (SameNamed.refl s).kept _ nofun

theorem slotConversion (s : State) : NamedKept .sticky s (slotConversion s) := by
  rw [slotConversion_eq]
  exact ⟨fun _ _ => ⟨rfl, rfl⟩, fun _ => id, fun _ _ => rfl, fun h => absurd rfl h, fun _ _ => rfl, fun _ _ => rfl, nofun⟩

theorem enumerated (s : State) (carried : Address) : NamedKept .address s (enumerated carried s) := by
  have hnamed : NamedKept .address s
      { s with nodeAddress := takenAddress carried, cache := [], commitEnumerated := s.deferredCommit.isSome } :=
    ⟨fun _ _ => ⟨rfl, rfl⟩, fun _ => id, fun _ _ => rfl, fun _ _ => rfl, fun _ _ => rfl, fun h => absurd rfl h, nofun⟩
  have hreport (v : State) : SameNamed v v.placeReport := by
    rw [placeReport_eq]
    split
    · exact ⟨rfl, rfl, rfl, rfl, rfl, rfl⟩
    · split <;> exact ⟨rfl, rfl, rfl, rfl, rfl, rfl⟩
  have hforward (v : State) (f : Frame) : NamedKept .address v (v.offerForward f) :=
    (SameNamed.links (.offerForward v f)).kept _ nofun
  unfold Machine.enumerated
  dsimp only
  split
  · exact hnamed.trans (hforward ..)
  · exact hnamed.trans (((hreport _).kept .address nofun).trans (hforward ..))

theorem linkOrEnumerated (h : LinkOrEnumerated s t) : NamedKept .address s t := by
  rcases h with h | ⟨u, a, h, rfl⟩
  · exact (SameNamed.links h).kept _ nofun
  · exact ((SameNamed.links h).kept .address nofun).trans (enumerated u a)

/-- A body changes what its effect allows. -/
theorem bodyEffect {rq : Request} {e : RowEffect} {r : Option Reply} (heffect : BodyEffect rq s e (t, r)) :
    NamedKept e.change s t := by
  cases heffect with
  | answers => exact (SameNamed.refl s).kept _ fun _ => rfl
  | writesShadow b _ hphase =>
    exact ⟨fun _ _ => ⟨rfl, rfl⟩, fun _ => id, fun h => absurd hphase (h rfl), fun _ _ => rfl, fun _ _ => rfl, fun _ _ => rfl,
      fun _ => rfl⟩
  | commits | acknowledges | forwards | waits | discards =>
    refine .nothing ?_
    exact ⟨rfl, rfl, rfl, rfl, rfl, rfl⟩
  | clearsCounters g =>
    refine .nothing ?_
    cases g <;> exact ⟨rfl, rfl, rfl, rfl, rfl, rfl⟩
  | clearsSticky | resetsExceptions =>
    exact ⟨fun _ _ => ⟨rfl, rfl⟩, fun _ => id, fun _ _ => rfl, fun h => absurd rfl h, fun _ _ => rfl, fun _ _ => rfl, nofun⟩
  | setsParameter =>
    exact ⟨fun _ _ => ⟨rfl, rfl⟩, fun _ => id, fun _ _ => rfl, fun _ _ => rfl, fun h => absurd rfl h, fun _ _ => rfl, nofun⟩
  | resetsPipeline => exact .nothing (.pipelineReset s)
  | resetsAll =>
    have hresets : NamedChange.Resets .fullReset := .inl rfl
    exact ⟨fun _ h => absurd hresets h, fun h => absurd hresets h, fun _ h => absurd hresets h, fun _ h => absurd hresets h,
      fun _ h => absurd hresets h, fun _ _ => (SameNamed.pipelineReset s).address, nofun⟩

theorem agentTake {row : Request → Bool} {body : CommandBody} {rq : Request} {e : RowEffect}
    (heffect : row rq = true → ∀ u, BodyEffect rq u e (body rq u)) : NamedKept e.change s (agentTake row body rq s) := by
  refine agentTake_keeps (P := NamedKept e.change s) heffect (fun u rest hu _ => ?_) (fun u r hu _ => ?_)
    (fun u t r hu _ _ hb => ?_) (fun u t hu _ hb => hu.trans (bodyEffect hb)) ((SameNamed.refl s).kept _ fun _ => rfl)
  · have hsame : SameNamed u { u with requests := rest }.clearCrossed := ⟨rfl, rfl, rfl, rfl, rfl, rfl⟩
    exact hu.trans (hsame.kept _ fun _ => rfl)
  · have hsame : SameNamed u { u with responses := u.responses ++ [.response r], replays := satInc u.replays } :=
      ⟨rfl, rfl, rfl, rfl, rfl, rfl⟩
    exact hu.trans (hsame.kept _ fun _ => rfl)
  · refine (hu.trans (bodyEffect hb)).trans ((SameNamed.answerAs t false rq r).kept _ fun _ => ?_)
    rw [State.answerAs_eq]

theorem deviceReset (s : State) : NamedKept .deviceReset s (deviceReset s) := by
  have hresets : NamedChange.Resets .deviceReset := .inr rfl
  exact ⟨fun _ h => absurd hresets h, fun h => absurd hresets h, fun _ h => absurd hresets h, fun _ h => absurd hresets h,
    fun _ h => absurd hresets h, fun _ h => absurd rfl h, nofun⟩

end NamedKept

/-- A command other than a request row changes what its name allows. -/
theorem exec_event_named : ∀ {i : Instr}, i.request? = none → ∀ s, ∃ t, exec i s = .next t ∧ NamedKept (namedChange i) s t
  | .deviceReset, _, s => ⟨_, rfl, .deviceReset s⟩
  | .symbolLock lane, _, s => ⟨_, rfl, .nothing (.links (.symbolLock s lane))⟩
  | .lossOfLock lane, _, s => ⟨_, rfl, .nothing (.links (.lossOfLock s lane))⟩
  | .idleSymbol lane, _, s => ⟨_, rfl, .nothing (.links (.idleSymbol s lane))⟩
  | .invalidSymbol lane, _, s => ⟨_, rfl, .nothing (.links (.invalidSymbol s lane))⟩
  | .startSymbol lane, _, s => ⟨_, rfl, .nothing (.links (.startSymbol s lane))⟩
  | .dataWordSymbol lane w, _, s => ⟨_, rfl, .nothing (.links (.dataWordSymbol s lane w))⟩
  | .aReceiveFrameEnd, _, s => ⟨_, rfl, .nothing (.links (.aReceiveFrameEnd s))⟩
  | .cReceiveFrameEnd, _, s => ⟨_, rfl, .linkOrEnumerated (cReceiveFrameEnd_links s)⟩
  | .enumerate a, _, s => ⟨_, rfl, .linkOrEnumerated (enumerate_links s a)⟩
  | .creditDataReceived lane, _, s => ⟨_, rfl, .nothing (.links (.creditSymbol s lane fun _ => ⟨rfl, id⟩))⟩
  | .creditControlReceived lane, _, s => ⟨_, rfl, .nothing (.links (.creditSymbol s lane fun _ => ⟨rfl, id⟩))⟩
  | .creditResetReceived lane, _, s => ⟨_, rfl, .nothing (.links (.creditSymbol s lane fun _ => ⟨rfl, id⟩))⟩
  | .egressStart, _, s => ⟨_, rfl, .nothing (.links (.egressStart s))⟩
  | .transmitFrameEnd lane, _, s => ⟨_, rfl, .nothing (.links (.transmitFrameEnd s lane))⟩
  | .aTransmitCreditSymbol, _, s => ⟨_, rfl, .nothing (.links (.aTransmitCreditSymbol s))⟩
  | .forwardFifoStart, _, s => ⟨_, rfl, .nothing (.links (.forwardFifoStart s))⟩
  | .answerListEntry, _, s => ⟨_, rfl, .nothing (.answerListEntry s)⟩
  | .engineTake, _, s => ⟨_, rfl, .nothing (.engineTake s)⟩
  | .slotConversion, _, s => ⟨_, rfl, .slotConversion s⟩
  | .conversionCompletion, _, s => ⟨_, rfl, .nothing (.conversionCompletion s)⟩
  | .holdTimerExpiry, _, s => ⟨_, rfl, .nothing (.holdTimerExpiry s)⟩
  | .releaseEntry, _, s => ⟨_, rfl, .nothing (.releaseEntry s)⟩
  | .coalescingTimerExpiry, _, _ => ⟨_, rfl, NamedKept.nothing ⟨rfl, rfl, rfl, rfl, rfl, rfl⟩⟩
  | .reminderTimerExpiry, _, _ => ⟨_, rfl, NamedKept.nothing ⟨rfl, rfl, rfl, rfl, rfl, rfl⟩⟩
  | .validationFailure, _, s => ⟨_, rfl, .nothing (.validationFailure s)⟩
  | .compilationEnd, _, s => ⟨_, rfl, .nothing (.compilationEnd s)⟩
  | .swap, _, s => ⟨_, rfl, .swap s⟩

/-- Every command changes what its name allows. -/
theorem exec_named {i : Instr} {s t : State} (hexec : exec i s = .next t) : NamedKept (namedChange i) s t := by
  cases hrq : i.request? with
  | some rq =>
    obtain ⟨row, body, heq, -, heffect⟩ := exec_request hrq
    rw [namedChange_request hrq, ← Host.Outcome.next.inj ((heq s).symm.trans hexec)]
    exact .agentTake heffect
  | none =>
    obtain ⟨u, heq, hkept⟩ := exec_event_named hrq s
    exact Host.Outcome.next.inj (heq.symm.trans hexec) ▸ hkept

/-! ## The commands of each change -/

section
variable {i : Instr}

theorem of_namedChange_resets (h : (namedChange i).Resets) : i = .deviceReset ∨ ∃ rq, i = .resetAll rq := by
  cases i <;> simp_all [namedChange, NamedChange.Resets]

theorem of_namedChange_tables (h : namedChange i = .tables) : i = .swap := by
  cases i <;> simp_all [namedChange]

theorem of_namedChange_shadow (h : namedChange i = .shadow) :
    ∃ rq, i = .writeChannel rq ∨ i = .writeStream rq ∨ i = .writeClass rq ∨ i = .copyActive rq := by
  cases i <;> simp_all [namedChange]

theorem of_namedChange_sticky (h : namedChange i = .sticky) :
    i = .slotConversion ∨ ∃ rq, i = .clearSticky rq ∨ i = .resetExceptions rq := by
  cases i <;> simp_all [namedChange]

theorem of_namedChange_params (h : namedChange i = .params) : ∃ rq, i = .setParameter rq := by
  cases i <;> simp_all [namedChange]

theorem of_namedChange_address (h : namedChange i = .address) : i = .cReceiveFrameEnd ∨ ∃ a, i = .enumerate a := by
  cases i <;> simp_all [namedChange]

theorem of_namedChange_deviceReset (h : namedChange i = .deviceReset) : i = .deviceReset := by
  cases i <;> simp_all [namedChange]

end

/-- Settles O60: each command changes at most what its name allows, and a millisecond changes none of it. -/
theorem onlyNamedEventsChange : Obligations.OnlyNamedEventsChange := by
  intro s t
  refine ⟨?_, fun hnone hstep => ?_⟩
  · intro i hexec resetsAll
    have hkept := exec_named hexec
    have hresets : (namedChange i).Resets → resetsAll := of_namedChange_resets
    refine ⟨fun hne => ?_, fun hs ht => ?_, fun hne => ?_, fun hne => ?_, fun hne => ?_, fun hne => ?_⟩
    · by_contra hnot
      obtain ⟨hswap, hnot⟩ := not_or.1 hnot
      obtain ⟨hgeneration, hactive⟩ := hkept.tables (mt of_namedChange_tables hswap) (mt hresets hnot)
      exact hne.elim (absurd hgeneration) (absurd hactive)
    · by_contra hnot
      exact hkept.generation (mt hresets hnot) hs ht
    · by_contra hnot
      obtain ⟨hnot, hwrites⟩ := not_or.1 hnot
      exact hne (hkept.shadow (fun hc hidle => hwrites ⟨hidle, of_namedChange_shadow hc⟩) (mt hresets hnot))
    · by_contra hnot
      obtain ⟨hnot, hclears⟩ := not_or.1 hnot
      exact hne (hkept.sticky (mt of_namedChange_sticky hclears) (mt hresets hnot))
    · by_contra hnot
      obtain ⟨hnot, hsets⟩ := not_or.1 hnot
      exact hne (hkept.params (mt of_namedChange_params hsets) (mt hresets hnot))
    · by_contra hnot
      obtain ⟨hreset, htakes⟩ := not_or.1 hnot
      exact hne (hkept.address (mt of_namedChange_address htakes) (mt of_namedChange_deviceReset hreset))
  · have hticked : tick s = t := by
      rw [step, hnone] at hstep
      exact Host.Outcome.next.inj hstep
    obtain ⟨hgeneration, hactive, hshadow, hsticky, hparams, haddress⟩ := hticked ▸ SameNamed.tick s
    exact ⟨hgeneration, hactive, hshadow, hsticky, hparams, haddress⟩

end Sys2Proof.Machine
end


section
/-! Proofs about the front of the queue and the passing of a millisecond, the transmit lanes, the answer list and the timers of the
notices (R136 to R138, R145, R152 to R159, R170; log 1, log 5). -/

namespace Sys2Proof.Machine

set_option Elab.async false

/-- Settles O1: the definition of a step with a command in front. -/
theorem stepRunsFront : Obligations.StepRunsFront := fun _ _ => rfl

/-! ## One millisecond -/

theorem timerDue_eq_false_iff (t : Timer) : timerDue t = false ↔ ∀ n, t = some n → 1 < n := by
  cases t <;> simp [timerDue]

/-- What a timer shows when the expiries of its millisecond are still to come. -/
def timerCounted (t : Timer) : Timer := if timerDue t then t else timerTick t

/-- The same for the timer of a hold. -/
def Hold.counted : Hold → Hold
  | .held f t => .held f (timerCounted t)
  | .releasing f r => .releasing f r
  | .empty => .empty

def Hold.due : Hold → Bool
  | .held _ t => timerDue t
  | .releasing _ _ => false
  | .empty => false

section
variable (s : State)

theorem tickReminder_eq :
    tickReminder s =
      if timerDue s.exc.reminder then reminderTimerExpiry s
      else { s with exc := { s.exc with reminder := timerTick s.exc.reminder } } := rfl

theorem tickCoalescing_eq :
    tickCoalescing s =
      if timerDue s.exc.coalescing then coalescingTimerExpiry s
      else { s with exc := { s.exc with coalescing := timerTick s.exc.coalescing } } := rfl

theorem tickHold_eq :
    tickHold s = if s.hold.due then holdTimerExpiry { s with hold := s.hold.counted } else { s with hold := s.hold.counted } := by
  unfold tickHold
  cases hhold : s.hold with
  | held f t =>
    cases hdue : timerDue t <;> simp [Hold.due, Hold.counted, timerCounted, hdue, ← hhold]
  | releasing | empty => simp [Hold.due, Hold.counted, ← hhold]

/-- The expiry of the reminder timer neither reads nor changes the coalescing timer. -/
theorem ExceptionUnit.reminderExpiry_setCoalescing (x : ExceptionUnit) (t : Timer) :
    { x with coalescing := t }.reminderExpiry = { x.reminderExpiry with coalescing := t } := by
  unfold ExceptionUnit.reminderExpiry
  dsimp only
  split
  · split
    · split <;> rfl
    · rfl
  · rfl

theorem ExceptionUnit.reminderExpiry_coalescing (x : ExceptionUnit) : x.reminderExpiry.coalescing = x.coalescing := by
  rw [show x.reminderExpiry = _ from x.reminderExpiry_setCoalescing x.coalescing]

/-- The millisecond of both notice timers: what is due expires after everything has counted. -/
theorem tick_notices :
    tickCoalescing (tickReminder s) =
      let counted : State := { s with exc := { s.exc with
        coalescing := timerCounted s.exc.coalescing, reminder := timerCounted s.exc.reminder } }
      let reminded := if timerDue s.exc.reminder then reminderTimerExpiry counted else counted
      if timerDue s.exc.coalescing then coalescingTimerExpiry reminded else reminded := by
  have hkept : (reminderTimerExpiry s).exc.coalescing = s.exc.coalescing := s.exc.reminderExpiry_coalescing
  rw [tickReminder_eq]
  cases hreminder : timerDue s.exc.reminder <;> cases hcoalescing : timerDue s.exc.coalescing <;>
    simp only [timerCounted, hreminder, hcoalescing, Bool.false_eq_true, if_true, if_false, tickCoalescing_eq, hkept]
  exact congrArg (fun x => { s with exc := x }) (s.exc.reminderExpiry_setCoalescing (timerTick s.exc.coalescing)).symm

/-- A command that is run where a condition holds, and the commands after it. -/
theorem run_optional {i : Instr} {f : State → State} (hf : ∀ u, exec i u = .next (f u)) (b : Bool) (later : List Instr) :
    run ((if b then [i] else []) ++ later) s = run later (if b then f s else s) := by
  cases b with
  | false => rfl
  | true => simp [run, hf]

theorem tick_eq_run :
    run ((if timerDue s.exc.reminder then [.reminderTimerExpiry] else []) ++
        (if timerDue s.exc.coalescing then [.coalescingTimerExpiry] else []) ++ (if s.hold.due then [.holdTimerExpiry] else []))
      { s with
        exc := { s.exc with coalescing := timerCounted s.exc.coalescing, reminder := timerCounted s.exc.reminder }
        hold := s.hold.counted } = .next (tick s) := by
  rw [tick, tick_notices, tickHold_eq, List.append_assoc, ← List.append_nil (if s.hold.due then _ else _),
    run_optional _ (f := reminderTimerExpiry) fun _ => rfl, run_optional _ (f := coalescingTimerExpiry) fun _ => rfl,
    run_optional _ (f := holdTimerExpiry) fun _ => rfl, run]
  dsimp only
  cases timerDue s.exc.reminder <;> cases timerDue s.exc.coalescing <;> rfl

theorem tickReminder_stopped {s : State} (h : s.exc.reminder = none) : tickReminder s = s := by
  rw [tickReminder_eq, h]
  show { s with exc := { s.exc with reminder := none } } = s
  rw [← h]

theorem tickCoalescing_stopped {s : State} (h : s.exc.coalescing = none) : tickCoalescing s = s := by
  rw [tickCoalescing_eq, h]
  show { s with exc := { s.exc with coalescing := none } } = s
  rw [← h]

theorem tickHold_stopped {s : State} (h : ∀ f n, s.hold ≠ .held f (some n)) : tickHold s = s := by
  unfold tickHold
  split
  · next f t hhold =>
    cases t with
    | none => show { s with hold := .held f none } = s; rw [← hhold]
    | some n => exact absurd hhold (h f n)
  all_goals rfl

theorem tickHold_last {s : State} {f : CondFrame} (h : s.hold = .held f (some 1)) : tickHold s = holdTimerExpiry s := by
  simp [tickHold, h, timerDue]

end

/-- Settles O2: the millisecond counts every timer first, since no expiry reads what another timer has counted. -/
theorem idleStepIsOneMillisecond : Obligations.IdleStepIsOneMillisecond := by
  intro s hnone due counted reminders coalescings holds
  have hstep : step s = .next (tick s) := by rw [step, hnone]
  have hholds : holds = if s.hold.due then [.holdTimerExpiry] else [] := by
    simp only [holds]
    cases s.hold <;> rfl
  refine ⟨?_, fun hc hr hh => hstep.trans ((tick_eq_run s).symm.trans ?_), fun _ hc hr hh => hstep.trans (next_eq ?_).symm,
    fun _ hr hc hh => hstep.trans (next_eq ?_).symm, fun f hh hc hr => hstep.trans (next_eq ?_).symm⟩
  · rw [hholds]
    exact hstep.trans (tick_eq_run s).symm
  · have hcoalescing := (timerDue_eq_false_iff _).2 hc
    have hreminder := (timerDue_eq_false_iff _).2 hr
    obtain ⟨hdue, hcounted⟩ : s.hold.due = false ∧ s.hold.counted = (match s.hold with
        | .held f t => .held f (t.map (· - 1))
        | .releasing f r => .releasing f r
        | .empty => .empty) := by
      cases hhold : s.hold with
      | held f t =>
        have hstays : timerDue t = false := (timerDue_eq_false_iff t).2 fun n hn => hh f n (hhold.trans (by rw [hn]))
        simp [Hold.due, Hold.counted, timerCounted, timerTick, hstays]
      | releasing | empty => exact ⟨rfl, rfl⟩
    simp only [hdue, hcoalescing, hreminder, timerCounted, timerTick, Bool.false_eq_true, if_false, List.append_nil, run]
    exact congrArg (fun h => Host.Outcome.next { s with
      exc := { s.exc with coalescing := s.exc.coalescing.map (· - 1), reminder := s.exc.reminder.map (· - 1) }
      hold := h }) hcounted
  · rw [tick, tickReminder_stopped hr, tickCoalescing_eq, hc]
    exact (tickHold_stopped (s := coalescingTimerExpiry s) hh).symm
  · rw [tick, tickReminder_eq, hr]
    have hkept : (reminderTimerExpiry s).exc.coalescing = none := s.exc.reminderExpiry_coalescing.trans hc
    exact ((congrArg tickHold (tickCoalescing_stopped hkept)).trans (tickHold_stopped (s := reminderTimerExpiry s) hh)).symm
  · rw [tick, tickReminder_stopped hr, tickCoalescing_stopped hc, tickHold_last hh]

/-! ## The egress arbiter (R155 to R157) -/

section
variable {s : State}

theorem egressStart_of_sending {words : List Word} (h : s.cTx = .sending words) : egressStart s = s := by rw [egressStart, h]

theorem egressSource_responses (hcredit : 0 < s.controlCredits) (h : s.responses ≠ []) : egressSource s = some .responses :=
  if_pos ⟨hcredit, h⟩

theorem egressSource_notice (hcredit : 0 < s.controlCredits) (hresponses : s.responses = []) (h : s.exc.slot.isSome) :
    egressSource s = some .notice := by
  simp [egressSource, hcredit, hresponses, h]

theorem egressSource_transit (hcredit : 0 < s.controlCredits) (hresponses : s.responses = []) (hslot : s.exc.slot = none)
    (h : s.transit ≠ []) : egressSource s = some .transit := by
  simp [egressSource, hcredit, hresponses, hslot, h]

theorem State.grantControl_eq (s : State) :
    s.grantControl = { s with
      grants := if s.aRx.state = .up ∧ s.pendingGrants .control < 4 then s.grants ++ [.control] else s.grants } := by
  rcases s.grantControl_cases with ⟨hup, hroom, heq⟩ | ⟨hnot, heq⟩ <;> rw [heq]
  · rw [if_pos ⟨hup, hroom⟩]
  · rw [if_neg (not_and_or.2 (hnot.imp_right Nat.not_lt.2))]

/-- With no control frame eligible, the source is the output queue, where it is eligible. -/
theorem egressSource_of_no_control
    (hcontrol : s.controlCredits = 0 ∨ s.responses = [] ∧ s.exc.slot = none ∧ s.transit = []) :
    egressSource s = if 0 < s.dataCredits ∧ s.outQueue ≠ [] then some .output else none := by
  rcases hcontrol with hzero | ⟨hresponses, hslot, htransit⟩
  · simp [egressSource, hzero]
  · simp [egressSource, hresponses, hslot, htransit]

end

/-- Settles O15: the first eligible source, and what its start takes from it. -/
theorem egressOrder : Obligations.EgressOrder := by
  refine ⟨fun _ => rfl, fun _ => rfl, fun _ => rfl, fun s => ⟨fun words h => next_eq (egressStart_of_sending h), fun hidle =>
    ⟨fun f rest hcredit hf => next_eq ?_, fun reason hcredit hnone hslot => next_eq ?_,
      fun f rest hcredit hnone hslot hf => next_eq ?_, fun f rest hcontrol hcredit hf => next_eq ?_,
      fun hcontrol hdata => next_eq ?_⟩⟩⟩
  · simp only [egressStart, hidle, egressSource_responses hcredit (hf ▸ List.cons_ne_nil f rest), startResponse, hf]
    rfl
  · simp only [egressStart, hidle, egressSource_notice hcredit hnone (hslot ▸ rfl), startNotice, hslot]
    rfl
  · simp only [egressStart, hidle, egressSource_transit hcredit hnone hslot (hf ▸ List.cons_ne_nil f rest), startTransit, hf,
      State.grantControl_eq]
    rfl
  · simp only [egressStart, hidle, egressSource_of_no_control hcontrol, startOutput, hf,
      if_pos (And.intro hcredit (List.cons_ne_nil f rest))]
    rfl
  · have hnot : ¬ (0 < s.dataCredits ∧ s.outQueue ≠ []) := fun ⟨hcredit, hsome⟩ => hdata.elim (Nat.ne_of_gt hcredit) hsome
    simp only [egressStart, hidle, egressSource_of_no_control hcontrol, if_neg hnot]

/-! ## The other transmit lane and the answer list -/

/-- Settles O16: each start by the state of its lane and the head of the pending grant list. -/
theorem transmitLanes : Obligations.TransmitLanes := by
  refine fun s => ⟨fun _ => rfl, rfl, rfl, fun g rest hidle hg => ⟨next_eq ?_, next_eq ?_⟩,
    fun f rest hidle hnone hf => ⟨next_eq ?_, next_eq ?_⟩, fun words hsending => ⟨next_eq ?_, next_eq ?_⟩⟩
  · rw [aTransmitCreditSymbol, hidle, hg]
  · rw [forwardFifoStart, hidle, hg]
  · rw [forwardFifoStart, hidle, hnone, hf]
    rfl
  · rw [aTransmitCreditSymbol, hidle, hnone]
  · rw [aTransmitCreditSymbol, hsending]
  · rw [forwardFifoStart, hsending]

/-- Settles O25: where a frame is placed decides, and the status decides on the cache. -/
theorem answersArePlaced : Obligations.AnswersArePlaced := by
  refine ⟨?_, fun s => ⟨fun f rest hf hroom => next_eq ?_, fun hnot => next_eq ?_⟩⟩
  · intro s rq st data response cached
    have hcached : cached = if st.cached then cacheInsert s.cache ⟨rq, s.respond rq ⟨st, data⟩, false⟩ else s.cache := by
      simp only [cached]
      cases st <;> rfl
    rw [State.answer_eq, hcached]
    refine ⟨fun hnone hroom => ?_, fun hnot => ?_⟩
    · rw [State.place_ready _ _ hnone hroom]
      rfl
    · rcases s.place_cases (.response (s.respond rq ⟨st, data⟩)) with ⟨hnone, hroom, -⟩ | ⟨-, heq⟩
      · exact absurd hnot (not_or.2 ⟨not_not.2 hnone, Nat.not_le.2 hroom⟩)
      · rw [heq]
        rfl
  · rw [answerListEntry, hf]
    exact if_pos hroom
  · unfold answerListEntry
    split
    · next f rest hf =>
      have hfull : ¬ s.responses.length < Config.responseEntries := Nat.not_lt.2 (hnot.resolve_left (hf ▸ List.cons_ne_nil f rest))
      exact if_neg hfull
    · rfl

/-! ## The timers of the notices -/

/-- Settles O23: each expiry by the notice state, and for the reminder by its count. -/
theorem noticeTimersExpire : Obligations.NoticeTimersExpire := by
  refine fun s => ⟨fun n hnotice htimer => next_eq ?_, fun n hnotice htimer hcount => next_eq ?_,
    fun n hnotice htimer hcount => next_eq ?_, fun hquiet => ⟨next_eq ?_, next_eq ?_⟩⟩
  · rw [coalescingTimerExpiry, ExceptionUnit.coalescingExpiry, hnotice, htimer]
    rfl
  · have hlimit : s.exc.reminderCount < Config.reminderLimit := Nat.lt_succ_of_lt hcount
    have hnext : s.exc.reminderCount + 1 < Config.reminderLimit := Nat.succ_lt_succ hcount
    rw [reminderTimerExpiry, ExceptionUnit.reminderExpiry, hnotice, htimer]
    simp only [hlimit, hnext, if_true]
    rfl
  · rw [reminderTimerExpiry, ExceptionUnit.reminderExpiry, hnotice, htimer]
    simp only [hcount]
    rfl
  · rw [coalescingTimerExpiry, ExceptionUnit.coalescingExpiry, hquiet]
  · rw [reminderTimerExpiry, ExceptionUnit.reminderExpiry, hquiet]

end Sys2Proof.Machine
end


section
/-! Proofs about the conversion engine, the exception unit, the divert hold and the end of a commit (chapter 3; R104 to R108, R112 to
R120, R127, R134, R135). -/

namespace Sys2Proof.Machine

set_option Elab.async false

/-! ## The take of a frame (R59 to R62) -/

/-- Freeing the head entry, with the one grant that it decides. -/
theorem State.freeIngress_of_cons {s : State} {f : Frame} {rest : List Frame} (h : s.ingress = f :: rest) :
    s.freeIngress = { s with
      ingress := rest
      grants := if decide (s.aRx.state = .up ∧ s.pendingGrants .data < 8) then s.grants ++ [.data] else s.grants
      outstanding :=
        if decide (s.aRx.state = .up ∧ s.pendingGrants .data < 8) then s.outstanding + 1 else s.outstanding } := by
  rcases s.freeIngress_cases with ⟨hup, hroom, heq⟩ | ⟨hnot, heq⟩
  · simp [heq, h, hup, hroom]
  · have hcond : ¬ (s.aRx.state = .up ∧ s.pendingGrants .data < 8) := not_and_or.2 (hnot.imp_right Nat.not_lt.2)
    simp [heq, h, hcond]

section
variable {s : State}

theorem outReserved_of_idle (h : s.engine = .idle) : s.outReserved = 0 := by rw [State.outReserved, h]

theorem releaseWaits_eq_false_iff : releaseWaits s = false ↔ ∀ g r, s.hold ≠ .releasing g r := by
  unfold releaseWaits
  cases s.hold <;> simp

theorem takeAllowed_iff :
    takeAllowed s = true ↔ s.engine = .idle ∧ s.outQueue.length < 4 ∧ (∀ g r, s.hold ≠ .releasing g r) ∧ s.phase ≠ .swapPending := by
  simp only [takeAllowed, Bool.and_eq_true, beq_iff_eq, bne_iff_ne, Bool.not_eq_true', releaseWaits_eq_false_iff, and_assoc]
  refine and_congr_right fun hidle => and_congr_left' ?_
  simp [State.outFree, outReserved_of_idle hidle]

theorem engineTake_of_not_allowed (h : s.ingress = [] ∨ takeAllowed s = false) : engineTake s = s := by
  unfold engineTake
  split
  · rfl
  · next f rest hfront => simp [h.resolve_left (hfront ▸ List.cons_ne_nil f rest)]

theorem engineTake_of_allowed {f : Frame} {rest : List Frame} (hfront : s.ingress = f :: rest) (h : takeAllowed s = true) :
    engineTake s =
      if f.conditioned then forwardConditioned f s
      else match matchedStream s.active f with
        | none => settleUnmatched f s
        | some i => beginConversion i f s := by
  unfold engineTake
  rw [hfront]
  exact if_pos h

end

theorem matchedStream_eq_none {b : Bank} {f : Frame} (h : ∀ i : Fin 8, (b.stream i).enabled = true → (b.stream i).inputId ≠ f.streamId) :
    matchedStream b f = none := by
  simpa [matchedStream] using h

/-- The matching record is the first one in the order of the record indices. -/
theorem matchedStream_eq_some {b : Bank} {f : Frame} {i : Fin 8} (henabled : (b.stream i).enabled = true)
    (hid : (b.stream i).inputId = f.streamId)
    (hfirst : ∀ j : Fin 8, j < i → (b.stream j).enabled = true → (b.stream j).inputId ≠ f.streamId) :
    matchedStream b f = some i := by
  refine List.find?_eq_some_iff_getElem.2 ⟨by simp [henabled, hid], i, by simp, by simp, fun j hj => ?_⟩
  simpa [imp_iff_not_or] using hfirst ⟨j, by omega⟩ hj

/-- Settles O17: the conditions of a take, the fields that sort the frame, and the entry that is freed. -/
theorem engineForwards : Obligations.EngineForwards := by
  refine ⟨fun f => ⟨rfl, rfl, rfl, rfl, rfl⟩, ?_, fun s h => next_eq (engineTake_of_not_allowed (h.imp_right fun hnot => ?_))⟩
  · intro s f rest hfront hidle hroom hhold hphase granted freed
    have htake := engineTake_of_allowed hfront (takeAllowed_iff.2 ⟨hidle, hroom, hhold, hphase⟩)
    have hfreed := State.freeIngress_of_cons hfront
    refine ⟨fun hcond => next_eq ?_, fun hraw hnone => ⟨fun hforward => next_eq ?_, fun hdiscard => next_eq ?_⟩⟩
    · rw [htake, hcond, if_pos rfl, forwardConditioned, hfreed]
      rfl
    · rw [htake, hraw, matchedStream_eq_none hnone]
      simp only [Bool.false_eq_true, if_false, settleUnmatched, hforward, hfreed]
      rfl
    · rw [htake, hraw, matchedStream_eq_none hnone]
      simp only [Bool.false_eq_true, if_false, settleUnmatched, hdiscard, hfreed]
      rfl
  · rw [← Bool.not_eq_true, takeAllowed_iff]
    rintro ⟨hidle, hroom, hhold, hphase⟩
    rcases hnot with ⟨c, hc⟩ | hfull | ⟨g, r, hreleasing⟩ | hswap
    · exact nomatch hidle.symm.trans hc
    · omega
    · exact hhold g r hreleasing
    · exact hphase hswap

/-! ## The beginning of a conversion (R63, R64, R66) -/

theorem gapCheck_eq (i : Fin 8) (f : Frame) (s : State) :
    gapCheck i f s = { s with
      runtime := s.runtime.set i { s.runtime.get i with expected := f.inputSeq + 1, expectedValid := true }
      engineCounters := { s.engineCounters with
        streams := if isGap (s.runtime.get i) f then
            s.engineCounters.streams.set i
              { s.engineCounters.streams.get i with gaps := satInc (s.engineCounters.streams.get i).gaps }
          else s.engineCounters.streams } } := by
  unfold gapCheck
  dsimp only
  split <;> rfl

theorem lengthCheck_eq (i : Fin 8) (f : Frame) (s : State) :
    lengthCheck i f s = { s with
      runtime := s.runtime.set i { s.runtime.get i with
        lengthSticky := (s.runtime.get i).lengthSticky || lengthDiffers s.active i f }
      exc := if lengthDiffers s.active i f && !(s.runtime.get i).lengthSticky then
          s.exc.take s.params (lengthRecord s.generation i f.inputSeq (s.active.stream i).declared f.payload.length)
        else s.exc } := by
  have hsame (flag : Bool) (h : (s.runtime.get i).lengthSticky = flag) :
      s.runtime.set i { s.runtime.get i with lengthSticky := flag } = s.runtime := by
    subst h
    exact Vector.set_getElem_self ..
  unfold lengthCheck
  dsimp only
  cases hdiffers : lengthDiffers s.active i f with
  | false =>
    rw [Bool.or_false, hsame _ rfl]
    rfl
  | true =>
    rw [Bool.or_true]
    cases hsticky : (s.runtime.get i).lengthSticky with
    | false => rfl
    | true =>
      rw [hsame true hsticky]
      rfl

/-- Settles O18: both checks, and the conversion over the slots of the active layout. -/
theorem engineConverts : Obligations.EngineConverts := by
  intro s f rest i layout hfront hidle hroom hhold hphase hraw henabled hid hfirst hlayout r declared gap length counted
  have hlength : lengthDiffers s.active i f = length := (decide_not ..).symm
  refine next_eq ?_
  rw [engineTake_of_allowed hfront (takeAllowed_iff.2 ⟨hidle, hroom, hhold, hphase⟩), hraw,
    matchedStream_eq_some henabled hid hfirst]
  simp only [Bool.false_eq_true, if_false, beginConversion, lengthCheck_eq, gapCheck_eq, activeLayout, hlayout]
  simp only [get_set_self, set_set_self, hlength]
  rfl

/-! ## The slots (R45, R46, R65) -/

theorem getElem?_writeWords {payload : List Word} {offset : Nat} {ws : List Word} (h : offset + ws.length ≤ payload.length) (i : Nat) :
    (writeWords payload offset ws)[i]? =
      if offset ≤ i ∧ i < offset + ws.length then ws[i - offset]? else payload[i]? := by
  induction ws generalizing payload offset with
  | nil => rw [writeWords, if_neg (by simp)]
  | cons w ws ih =>
    rw [List.length_cons] at h ⊢
    rw [writeWords, ih (by rw [List.length_set]; omega)]
    rcases Nat.lt_trichotomy i offset with hbefore | rfl | hafter
    · rw [if_neg (by omega), if_neg (by omega), List.getElem?_set_ne (by omega)]
    · rw [if_neg (by omega), if_pos (by omega), List.getElem?_set_self (by omega), Nat.sub_self, List.getElem?_cons_zero]
    · rw [List.getElem?_set_ne (by omega), show i - offset = i - (offset + 1) + 1 by omega, List.getElem?_cons_succ]
      exact if_congr (by omega) rfl rfl

section
variable {s : State} {c : Conversion} {e : SlotEntry} {later : List SlotEntry} {f : Frame} {rest : List Frame}

theorem slotConversion_of_none (hengine : s.engine = .converting c) (hremaining : c.remaining = e :: later)
    (hfront : s.ingress = f :: rest) (hnone : (settleSlot s.active f.payload e).condition = none) :
    slotConversion s = { s with
      engine := .converting { c with
        remaining := later, payload := writeWords c.payload e.offset (settleSlot s.active f.payload e).stored } } := by
  simp only [slotConversion, hengine, hfront, hremaining, hnone, Conversion.afterSlot, Option.isSome_none, Option.any_none,
    Bool.or_false]

theorem slotConversion_of_some {k : Condition} (hengine : s.engine = .converting c) (hremaining : c.remaining = e :: later)
    (hfront : s.ingress = f :: rest) (hsome : (settleSlot s.active f.payload e).condition = some k) :
    slotConversion s = { s with
      engine := .converting { c with
        remaining := later, payload := writeWords c.payload e.offset (settleSlot s.active f.payload e).stored
        exception := true, diverting := c.diverting || k.diverts }
      sticky := s.sticky.set e.channel ((s.sticky.get e.channel).mark k.cls)
      exc := if formsRecord (s.active.channel e.channel).report (s.sticky.get e.channel) k.cls then
          s.exc.take s.params
            (channelRecord c.generation c.stream f.inputSeq e.channel k (settleSlot s.active f.payload e).stored)
        else s.exc } := by
  simp only [slotConversion, hengine, hfront, hremaining, hsome, Conversion.afterSlot, Option.isSome_some, Option.any_some,
    Bool.or_true, takeCondition]
  split <;> rfl

end

theorem formsRecord_eq (m : ReportMode) (k : Sticky) (c : ConditionClass) : formsRecord m k c = (m == .every || !k.flag c) := by
  cases m <;> rfl

/-- Settles O19: the words of a slot by induction over them, and the two ends of its settling. -/
theorem slotIsSettled : Obligations.SlotIsSettled := by
  refine ⟨fun b payload e => ⟨fun h => by rw [settleSlot, h], fun h => by rw [settleSlot, h]⟩, ?_,
    fun payload ws offset h => ⟨length_writeWords .., getElem?_writeWords h⟩, ?_⟩
  · exact ⟨⟨rfl, rfl, rfl, rfl⟩, ⟨rfl, rfl, rfl⟩, ⟨rfl, rfl, rfl⟩, rfl, rfl, rfl⟩
  · intro s c e later f rest hengine hremaining hfront r
    refine ⟨fun hnone => next_eq (slotConversion_of_none hengine hremaining hfront hnone), ?_⟩
    intro k hsome flags wasSet forms
    have hforms : formsRecord (s.active.channel e.channel).report flags k.cls = forms := by
      rw [formsRecord_eq]
      simp only [forms, wasSet]
      cases k.cls <;> rfl
    refine next_eq ((slotConversion_of_some hengine hremaining hfront hsome).trans ?_)
    rw [hforms]
    rfl

/-! ## The completion (R69 to R71, R112, R113) -/

section
variable {s : State} {c : Conversion}

theorem sendCompleted_of_not_diverting (h : c.diverting = false) (g : CondFrame) :
    sendCompleted c g s = s.enterOutput (.conditioned g) := by
  rw [sendCompleted, h, if_neg Bool.false_ne_true]

theorem sendCompleted_of_empty (h : c.diverting = true) (hempty : s.hold = .empty) (g : CondFrame) :
    sendCompleted c g s = enterHold g s := by
  rw [sendCompleted, h, if_pos rfl, hempty]

theorem sendCompleted_of_occupied (h : c.diverting = true) (hoccupied : s.hold ≠ .empty) (g : CondFrame) :
    sendCompleted c g s = refuseDivert c g s := by
  rw [sendCompleted, h, if_pos rfl]
  split
  · next hempty => exact absurd hempty hoccupied
  all_goals rfl

end

/-- Settles O20: the frame is completed, its ingress entry freed, and the frame sent where the hold lets it. -/
theorem conversionCompletes : Obligations.ConversionCompletes := by
  intro s c f rest hengine hremaining hfront r k counted granted g u
  have hfreed : ((s.setRuntime c.stream { r with nextOutput := r.nextOutput + 1 }).countStream c.stream (·.complete c.exception)).freeIngress =
      { u with engine := s.engine } := State.freeIngress_of_cons hfront
  have hdone : conversionCompletion s = { sendCompleted c g { u with engine := s.engine } with engine := .idle } := by
    rw [← hfreed]
    simp only [conversionCompletion, hengine, hfront, hremaining]
    rfl
  refine ⟨fun hsent => next_eq ?_, fun hdiverting hempty => next_eq ?_, fun hdiverting hoccupied => next_eq ?_⟩
  · rw [hdone, sendCompleted_of_not_diverting hsent]
    rfl
  · rw [hdone, sendCompleted_of_empty (s := { u with engine := s.engine }) hdiverting hempty]
    rfl
  · rw [hdone, sendCompleted_of_occupied (s := { u with engine := s.engine }) hdiverting hoccupied]
    rfl

/-! ## The exception unit (R127, R134, R135) -/

/-- Settles O21: the record is appended, the notice state reacts, and the threshold is tested. -/
theorem recordsAreStoredOrLost : Obligations.RecordsAreStoredOrLost := by
  intro x p r stored
  have hlength : x.queue.length < 32 → x.take p r = (stored.gather p.coalesceInterval).testThreshold p.noticeThreshold :=
    fun hroom => if_pos hroom
  have hqueue : (stored.gather p.coalesceInterval).queue.length = x.queue.length + 1 := by
    unfold ExceptionUnit.gather
    split <;> simp [stored]
  refine ⟨fun hfull => if_neg (Nat.not_lt.2 hfull), fun hroom hthreshold => ?_, fun hroom hother => ?_⟩
  · rw [hlength hroom, ExceptionUnit.testThreshold, if_pos (hqueue.trans hthreshold)]
    unfold ExceptionUnit.gather
    split <;> rfl
  · rw [hlength hroom, ExceptionUnit.testThreshold, if_neg (hqueue ▸ hother)]
    unfold ExceptionUnit.gather
    cases x.notice <;> rfl

/-! ## The divert hold (R116, R120) -/

theorem State.endRelease_of_some {s : State} {rq : Request} (h : s.deferredRelease = some rq) (r : Reply) :
    s.endRelease r = { s with deferredRelease := none }.answer rq r := by
  rw [State.endRelease, h]

/-- Settles O22: the hold decides what an expiry and a free entry do, and the free entry where the frame goes. -/
theorem holdReleases : Obligations.HoldReleases := by
  intro s f free late counted
  refine ⟨?_, fun n hheld => next_eq ?_, fun hstopped => next_eq ?_, fun hwaits hfree => next_eq ?_,
    fun rq hwaits hfree hrq => next_eq ?_, fun why hwaits hfull => next_eq ?_⟩
  · unfold State.outReserved
    cases s.engine <;> rfl
  · rw [holdTimerExpiry, hheld]
    rfl
  · rw [holdTimerExpiry, hstopped]
  · rw [releaseEntry, hwaits]
    exact if_pos hfree
  · rw [releaseEntry, hwaits]
    exact (if_pos hfree).trans (State.endRelease_of_some (s := { s with hold := .empty }.enterOutput (.conditioned f)) hrq _)
  · rw [releaseEntry, hwaits]
    exact if_neg (Bool.eq_false_iff.1 hfull)

/-! ## The end of a commit (R104 to R108) -/

/-- A deferred COMMIT is answered, and the answer enters the cache with the mark of an ENUMERATE that crossed it. -/
theorem State.endCommit_of_some {s : State} {rq : Request} (h : s.deferredCommit = some rq) {r : Reply} (hcached : r.status.cached = true) :
    s.endCommit r = { { s with deferredCommit := none, commitEnumerated := false }.answer rq r with
      cache := cacheInsert s.cache ⟨rq, s.respond rq r, s.commitEnumerated⟩ } := by
  simp only [State.endCommit, h, State.answerAs_eq, State.answer_eq, hcached]
  rfl

theorem claimDiffers_iff (old new : Bank) (i : Fin 8) :
    claimDiffers old new i = true ↔
      ¬ ((old.stream i).enabled = (new.stream i).enabled ∧ (old.stream i).inputId = (new.stream i).inputId) := by
  rw [claimDiffers, Bool.or_eq_true, bne_iff_ne, bne_iff_ne, not_and_or]

/-- Settles O24: validation of the shadow bank decides the end of compilation, and the engine lets the swap happen. -/
theorem commitEnds : Obligations.CommitEnds := by
  refine ⟨fun r => by cases r <;> rfl, ?_⟩
  intro s rq hrq answered
  refine ⟨fun f hphase hfault => next_eq ?_, fun hphase hpass => next_eq ?_, ?_, fun c hphase hengine => next_eq ?_⟩
  · rw [validationFailure, hphase, hfault]
    exact State.endCommit_of_some (s := { s with phase := .idle, pendingLayouts := none }) hrq rfl
  · rw [compilationEnd, hphase, hpass]
  · intro layouts hphase hengine hlayouts raised
    have hruntime : runtimeAfterSwap s.active s.shadow s.runtime = Vector.ofFn fun i =>
        if (s.active.stream i).enabled = (s.shadow.stream i).enabled ∧ (s.active.stream i).inputId = (s.shadow.stream i).inputId then
          s.runtime.get i
        else ⟨0, false, 0, false⟩ := by
      refine congrArg Vector.ofFn (funext fun i => ?_)
      rw [if_congr (claimDiffers_iff ..) rfl rfl, ite_not]
      rfl
    refine next_eq ?_
    unfold swap
    split
    · next stored hphase' hengine' hstored =>
      obtain rfl : stored = layouts := Option.some.inj (hstored.symm.trans hlayouts)
      refine (State.endCommit_of_some (s := { s with
        active := s.shadow, layouts := stored, pendingLayouts := none, generation := nextGeneration s.generation
        runtime := runtimeAfterSwap s.active s.shadow s.runtime, phase := .idle })
        (r := ⟨.ok, [0#16 ++ nextGeneration s.generation]⟩) hrq rfl).trans ?_
      rw [hruntime]
      rfl
    · next hnot => exact absurd hlayouts (hnot layouts hphase hengine)
  · rw [swap, hphase, hengine]

end Sys2Proof.Machine
end


section
/-! Proofs about the tests that the agent makes before a command's own, and about the tag cache (R167, R168, R171 to R174). -/

namespace Sys2Proof.Machine

set_option Elab.async false

/-! ## The rows and their requests (Table 11-5) -/

theorem requestFits_iff (rq : Request) : requestFits rq = true ↔ rq.operands.length ≤ 32 := decide_eq_true_iff

/-- A row with one command code. -/
theorem row_of_code {i : Instr} {rq : Request} {code : BitVec 8} (hreq : i.request? = some rq)
    (hwf : i.wellFormed = (requestFits rq && rq.code == code)) :
    i.request? = some rq ∧ (i.wellFormed = true ↔ rq.operands.length ≤ 32 ∧ rq.code = code) := by
  rw [hwf, Bool.and_eq_true, requestFits_iff, beq_iff_eq]
  exact ⟨hreq, Iff.rfl⟩

theorem operandCode_ne_some_iff {rq : Request} {code : BitVec 8} :
    operandCode rq ≠ some code ↔ ∀ w, rq.operands = [w] → w.extractLsb' 0 8 ≠ code := by
  unfold operandCode
  split
  · next w h => simp [h]
  · next h => simpa using fun w hw => absurd hw (h w)

/-- The rows of RELEASE_HOLD. -/
theorem row_of_release {i : Instr} {rq : Request} {other : BitVec 8} (hreq : i.request? = some rq)
    (hwf : i.wellFormed = (requestFits rq && isRelease other rq)) :
    i.request? = some rq ∧ (i.wellFormed = true ↔ rq.operands.length ≤ 32 ∧ rq.code = CommandCode.releaseHold ∧
      ∀ w, rq.operands = [w] → w.extractLsb' 0 8 ∉ [other]) := by
  refine ⟨hreq, ?_⟩
  simp only [hwf, isRelease, Bool.and_eq_true, requestFits_iff, beq_iff_eq, bne_iff_ne, operandCode_ne_some_iff,
    List.mem_singleton]

/-- The rows of RESET. -/
theorem row_of_reset {i : Instr} {rq : Request} {other1 other2 : BitVec 8} (hreq : i.request? = some rq)
    (hwf : i.wellFormed = (requestFits rq && isReset other1 other2 rq)) :
    i.request? = some rq ∧ (i.wellFormed = true ↔ rq.operands.length ≤ 32 ∧ rq.code = CommandCode.reset ∧
      ∀ w, rq.operands = [w] → w.extractLsb' 0 8 ∉ [other1, other2]) := by
  simp only [hwf, Bool.and_eq_true, requestFits_iff, isReset_iff, operandCode_ne_some_iff, List.mem_cons, List.not_mem_nil,
    or_false, not_or]
  refine ⟨hreq, and_congr_right fun _ => and_congr_right fun _ => ?_⟩
  exact ⟨fun ⟨h1, h2⟩ w hw => ⟨h1 w hw, h2 w hw⟩, fun h => ⟨fun w hw => (h w hw).1, fun w hw => (h w hw).2⟩⟩

theorem commandDefined_eq_false_iff (code : BitVec 8) : commandDefined code = false ↔ code = 0 ∨ 0x16 ≤ code.toNat := by
  rw [commandDefined, decide_eq_false_iff_not, ← BitVec.toNat_inj]
  show _ ↔ code.toNat = 0 ∨ _
  omega

/-- The row of the codes that name no command. -/
theorem row_of_undefined (rq : Request) :
    (Instr.undefinedCommand rq).wellFormed = true ↔ rq.operands.length ≤ 32 ∧ (rq.code = 0 ∨ 0x16 ≤ rq.code.toNat) := by
  show (requestFits rq && !commandDefined rq.code) = true ↔ _
  rw [Bool.and_eq_true, requestFits_iff, Bool.not_eq_true', commandDefined_eq_false_iff]

theorem broadcastAdmitted_iff (code : BitVec 8) :
    broadcastAdmitted code = true ↔ code = 0x01 ∨ code = 0x02 ∨ code = 0x12 ∨ code = 0x15 := by
  simp [broadcastAdmitted, or_assoc]

/-! ## The tests of R168 -/

section
variable {s : State} {rq : Request} {rest : List Request} {row : Request → Bool} {body : CommandBody}

/-- A row takes its own requests. -/
theorem exec_row {i : Instr} (hreq : i.request? = some rq) (hwf : i.wellFormed = true) :
    ∃ row body, row rq = true ∧ ∀ s, exec i s = .next (agentTake row body rq s) := by
  obtain ⟨row, body, htake, hrow, -⟩ := exec_request hreq
  exact ⟨row, body, (Bool.and_eq_true_iff.1 (hrow.symm.trans hwf)).2, htake⟩

theorem deferredTag_iff {tag : BitVec 8} :
    deferredTag s tag = true ↔ (∃ d, s.deferredCommit = some d ∧ d.tag = tag) ∨ ∃ d, s.deferredRelease = some d ∧ d.tag = tag := by
  simp [deferredTag, Option.any_eq_true]

theorem execute_inProgress (h : deferredTag s rq.tag = true) : execute body rq s = s.answer rq ⟨.inProgress, []⟩ := if_pos h

theorem execute_replay {e : CacheEntry} {before later : List CacheEntry} (h : deferredTag s rq.tag = false)
    (hcache : s.cache = before ++ e :: later) (hbefore : ∀ k ∈ before, k.request ≠ rq) (he : e.request = rq)
    (hanswers : s.answers = []) (hroom : s.responses.length < 2) :
    execute body rq s = { s with responses := s.responses ++ [.response e.response], replays := satInc s.replays } := by
  have hfind : s.cache.find? (fun k => k.request == rq) = some e := by
    rw [List.find?_eq_some_iff_append]
    exact ⟨by simp [he], before, later, hcache, by simpa using hbefore⟩
  simp [execute, h, hfind, State.place_ready s _ hanswers hroom]

/-- A request that no tag settles and that no own test of a command reaches. -/
theorem execute_badCommand (h : deferredTag s rq.tag = false) (hcache : ∀ e ∈ s.cache, e.request ≠ rq)
    (hbad : commandDefined rq.code = false ∨ rq.dest = 63 ∧ broadcastAdmitted rq.code = false) :
    execute body rq s = s.answer rq ⟨.badCommand, []⟩ := by
  have hfind : s.cache.find? (fun e => e.request == rq) = none := by simpa [List.find?_eq_none] using hcache
  simp only [execute, h, hfind, Bool.false_eq_true, if_false]
  rcases hbad with hcode | ⟨hdest, hadmitted⟩
  · simp [hcode]
  · simp [hdest, hadmitted, broadcastAddress]

theorem agentTake_badCommand (h : Untagged s rq rest) (hrow : row rq = true)
    (hbad : commandDefined rq.code = false ∨ rq.dest = 63 ∧ broadcastAdmitted rq.code = false) :
    agentTake row body rq s = s.answered rq rest .badCommand [] := by
  rw [agentTake_untagged h hrow, execute_badCommand (s := { s with requests := rest }) h.tagFree h.notCached hbad]
  exact State.answer_ready { s with requests := rest } rq ⟨.badCommand, []⟩ h.noAnswers h.room

end

/-- Settles O26: the codes of the rows, and the tests on the tags in the state that the clearing of R110 leaves. -/
theorem tagTestsComeFirst : Obligations.TagTestsComeFirst := by
  refine ⟨?_, ?_⟩
  · intro rq rows coded
    refine ⟨List.forall_iff_forall_mem.1 ?_, List.forall_iff_forall_mem.1 ?_, rfl, row_of_undefined rq⟩
    · exact ⟨row_of_code rfl rfl, row_of_code rfl rfl, row_of_code rfl rfl, row_of_code rfl rfl, row_of_code rfl rfl,
        row_of_code rfl rfl, row_of_code rfl rfl, row_of_code rfl rfl, row_of_code rfl rfl, row_of_code rfl rfl,
        row_of_code rfl rfl, row_of_code rfl rfl, row_of_code rfl rfl, row_of_code rfl rfl, row_of_code rfl rfl,
        row_of_code rfl rfl, row_of_code rfl rfl, row_of_code rfl rfl, row_of_code rfl rfl⟩
    · exact ⟨row_of_release rfl rfl, row_of_release rfl rfl, row_of_reset rfl rfl, row_of_reset rfl rfl, row_of_reset rfl rfl⟩
  · intro i rq s rest hreq hwf hready inUse cleared
    obtain ⟨row, body, hrow, htake⟩ := exec_row hreq hwf
    have htaken : exec i s = .next (execute body rq { s with requests := rest }.clearCrossed) :=
      (htake s).trans (congrArg _ (agentTake_taken hready hrow))
    refine ⟨?_, fun huse => htaken.trans (congrArg _ ?_), fun e before later hfree hcache hbefore he => htaken.trans (congrArg _ ?_)⟩
    · rw [htake, htake]
      exact congrArg _ (agentTake_clearCrossed hready hrow)
    · exact (execute_inProgress (s := { s with requests := rest }.clearCrossed) (deferredTag_iff.2 huse)).trans
        (State.answer_ready { s with requests := rest }.clearCrossed rq ⟨.inProgress, []⟩ hready.noAnswers hready.room)
    · have htag : deferredTag { s with requests := rest }.clearCrossed rq.tag = false :=
        Bool.eq_false_iff.2 (mt deferredTag_iff.1 hfree)
      exact execute_replay htag hcache hbefore he hready.noAnswers hready.room

/-- Settles O27: the test on the code, and then that on the broadcast, answer the request whichever row takes it. -/
theorem badCommandsAreRefused : Obligations.BadCommandsAreRefused := by
  refine ⟨broadcastAdmitted_iff, fun rq s rest h hcode => next_eq ?_, fun i rq s rest hreq hwf h hdest h1 h2 h12 h15 => ?_⟩
  · have hundefined := (commandDefined_eq_false_iff _).2 hcode
    exact agentTake_badCommand h (by simp [hundefined]) (.inl hundefined)
  · obtain ⟨row, body, hrow, htake⟩ := exec_row hreq hwf
    have hadmitted : broadcastAdmitted rq.code = false := by
      rw [← Bool.not_eq_true, broadcastAdmitted_iff]
      tauto
    exact (htake s).trans (congrArg _ (agentTake_badCommand h hrow (.inr ⟨hdest, hadmitted⟩)))

/-- Settles O28: the three conditions of a take. -/
theorem agentWaits : Obligations.AgentWaits := by
  intro i rq s hreq hwaits
  obtain ⟨row, body, htake, -, -⟩ := exec_request hreq
  refine (htake s).trans (congrArg _ ?_)
  rcases agentTake_cases s row body rq with heq | ⟨rest, hfront, -, hroom, hanswers, -⟩
  · exact heq
  · rcases hwaits with hfull | hsome | hother
    · omega
    · exact absurd hanswers hsome
    · exact absurd (by rw [hfront]; rfl) hother

/-- Settles O29: the entries of another tag stay in their order, less the oldest where there are four. -/
theorem cacheKeepsFour : Obligations.CacheKeepsFour := by
  intro cache e hlength hnodup others
  have hothers : cache.filter (fun k => k.request.tag != e.request.tag) = others :=
    List.filter_congr fun k _ => (decide_not ..).symm
  refine ⟨length_cacheInsert_le hlength e, nodup_cacheInsert hnodup e, fun hroom => ?_, fun oldest later heq hfull => ?_⟩
  · simp only [cacheInsert, hothers, if_pos (show others.length < Config.cacheEntries from hroom)]
  · have hnot : ¬ (oldest :: later).length < Config.cacheEntries := by
      rw [List.length_cons, hfull]
      decide
    simp only [cacheInsert, hothers, heq, if_neg hnot, List.tail_cons]

end Sys2Proof.Machine
end


section
/-! Proofs about the commands that read and write the banks, the layouts and the records of the exception unit (R31, R36, R52, R53, R76,
R77, R88 to R92, R130 to R132, R166, R182), and their operand counts (R168). -/

namespace Sys2Proof.Machine

set_option Elab.async false

/-! ## A command that is answered at its take -/

section
variable {s : State} {rq : Request} {rest : List Request}

/-- A row with one command code, whose body leaves the state `t`. -/
theorem exec_of_body {i : Instr} {code : BitVec 8} {body : CommandBody} (h : Takes s rq rest) (hc : rq.code = code)
    (he : exec i s = .next (agentTake (hasCode code) body rq s)) (hdef : commandDefined code = true) (t : State) {st : Status}
    {data : List Word} (hbody : body rq { s with requests := rest } = ({ t with requests := rest }, some ⟨st, data⟩))
    (hresp : t.responses = s.responses) (hans : t.answers = s.answers) : exec i s = .next (t.answered rq rest st data) :=
  exec_answered h he (beq_iff_eq.2 hc) (hc ▸ hdef) t st data hbody hresp hans

/-- A row with one command code, whose body changes nothing. -/
theorem exec_of_reads {i : Instr} {code : BitVec 8} {body : CommandBody} (h : Takes s rq rest) (hc : rq.code = code)
    (he : exec i s = .next (agentTake (hasCode code) body rq s)) (hdef : commandDefined code = true) {st : Status}
    {data : List Word} (hbody : body rq { s with requests := rest } = ({ s with requests := rest }, some ⟨st, data⟩)) :
    exec i s = .next (s.answered rq rest st data) :=
  exec_of_body h hc he hdef s hbody rfl rfl

/-- Settles O30: the answers of the two commands, and the test on their operands. -/
theorem identifyAndStatus : Obligations.IdentifyAndStatus := by
  refine ⟨fun x => by cases x <;> rfl, fun x => by cases x <;> rfl, fun x => by cases x <;> rfl, fun x => by cases x <;> rfl,
    fun x => by cases x <;> rfl, fun x => by cases x <;> rfl, fun s rq rest h => ⟨fun hc ho => ?_, fun hc ho => ?_,
      fun ho => ⟨fun hc => ?_, fun hc => ?_⟩⟩⟩
  · exact exec_of_reads h hc rfl rfl (noOperands_nil ho ..)
  · exact exec_of_reads h hc rfl rfl (noOperands_nil ho ..)
  · exact exec_of_reads h hc rfl rfl (noOperands_ne_nil ho ..)
  · exact exec_of_reads h hc rfl rfl (noOperands_ne_nil ho ..)

end

/-! ## The bodies that write and read records -/

section
variable {s : State} {rq : Request} {w : Word}

section
variable {α : Type} {n : Nat} {decode : List Word → Option α} {store : Bank → Fin n → α → Bank} {image : List Word}

theorem writeRecord_busy (h : s.phase ≠ .idle) : writeRecord n decode store rq s = (s, some ⟨.busy, []⟩) := unlessCommit_busy h _

theorem writeRecord_empty (h : s.phase = .idle) (ho : rq.operands = []) :
    writeRecord n decode store rq s = (s, some ⟨.badValue, []⟩) := by
  rw [writeRecord, unlessCommit_idle h, ho]
  rfl

theorem writeRecord_badIndex (h : s.phase = .idle) (ho : rq.operands = w :: image) (hn : n ≤ (w.extractLsb' 0 8).toNat) :
    writeRecord n decode store rq s = (s, some ⟨.badIndex, []⟩) := by
  rw [writeRecord, unlessCommit_idle h, ho]
  simp only [bits, finOf?_of_le hn]
  rfl

theorem writeRecord_badImage (h : s.phase = .idle) (ho : rq.operands = w :: image) (hn : (w.extractLsb' 0 8).toNat < n)
    (hnone : decode image = none) : writeRecord n decode store rq s = (s, some ⟨.badValue, []⟩) := by
  rw [writeRecord, unlessCommit_idle h, ho]
  simp only [bits, finOf?_of_lt hn, hnone]
  rfl

theorem writeRecord_stores {i : Fin n} {r : α} (h : s.phase = .idle) (ho : rq.operands = w :: image)
    (hn : i.val = (w.extractLsb' 0 8).toNat) (hsome : decode image = some r) :
    writeRecord n decode store rq s = ({ s with shadow := store s.shadow i r }, some ⟨.ok, []⟩) := by
  rw [writeRecord, unlessCommit_idle h, ho]
  simp only [bits, ← hn, finOf?_val, hsome]

end

/-- Settles O31: the tests of a write in their order, and the record that it replaces. -/
theorem writesReplaceShadowRecords : Obligations.WritesReplaceShadowRecords := by
  refine fun s rq rest h => ⟨fun hbusy => ?_, fun hidle ho => ?_, fun w image hidle ho => ?_⟩
  · exact ⟨fun hc => exec_of_reads h hc rfl rfl (writeRecord_busy hbusy), fun hc => exec_of_reads h hc rfl rfl (writeRecord_busy hbusy),
      fun hc => exec_of_reads h hc rfl rfl (writeRecord_busy hbusy)⟩
  · exact ⟨fun hc => exec_of_reads h hc rfl rfl (writeRecord_empty hidle ho),
      fun hc => exec_of_reads h hc rfl rfl (writeRecord_empty hidle ho),
      fun hc => exec_of_reads h hc rfl rfl (writeRecord_empty hidle ho)⟩
  · exact ⟨fun hc hn => exec_of_reads h hc rfl rfl (writeRecord_badIndex hidle ho hn),
      fun hc hn => exec_of_reads h hc rfl rfl (writeRecord_badIndex hidle ho hn),
      fun hc hn => exec_of_reads h hc rfl rfl (writeRecord_badIndex hidle ho hn),
      fun hc hn himage => exec_of_reads h hc rfl rfl (writeRecord_badImage hidle ho (Nat.lt_succ_of_le hn) himage),
      fun hc hn himage => exec_of_reads h hc rfl rfl (writeRecord_badImage hidle ho (Nat.lt_succ_of_le hn) himage),
      fun hc hn himage => exec_of_reads h hc rfl rfl (writeRecord_badImage hidle ho (Nat.lt_succ_of_le hn) himage),
      fun i d hc hn himage => exec_of_body h hc rfl rfl { s with shadow := s.shadow.setChannel i d }
        (writeRecord_stores (s := { s with requests := rest }) hidle ho hn himage) rfl rfl,
      fun i r hc hn himage => exec_of_body h hc rfl rfl { s with shadow := s.shadow.setStream i r }
        (writeRecord_stores (s := { s with requests := rest }) hidle ho hn himage) rfl rfl,
      fun i r hc hn himage => exec_of_body h hc rfl rfl { s with shadow := s.shadow.setClass i r }
        (writeRecord_stores (s := { s with requests := rest }) hidle ho hn himage) rfl rfl⟩

section
variable {n : Nat} {image : Bank → Fin n → List Word} {more : List Word}

theorem readRecord_empty (ho : rq.operands = []) : readRecord n image rq s = (s, some ⟨.badValue, []⟩) := by
  rw [readRecord, ho]
  rfl

theorem readRecord_badIndex (ho : rq.operands = w :: more) (hn : n ≤ (w.extractLsb' 0 8).toNat) :
    readRecord n image rq s = (s, some ⟨.badIndex, []⟩) := by
  rw [readRecord, ho]
  simp only [bits, finOf?_of_le hn]
  rfl

theorem readRecord_badCount (ho : rq.operands = w :: more) (hmore : more ≠ []) (hn : (w.extractLsb' 0 8).toNat < n) :
    readRecord n image rq s = (s, some ⟨.badValue, []⟩) := by
  rw [readRecord, ho]
  simp only [bits, finOf?_of_lt hn, List.isEmpty_iff, if_neg hmore]
  rfl

theorem readRecord_reads {i : Fin n} (ho : rq.operands = [w]) (hn : i.val = (w.extractLsb' 0 8).toNat) :
    readRecord n image rq s = match selectedBank s (w.extractLsb' 8 8).toNat with
      | none => (s, some ⟨.badValue, []⟩)
      | some b => (s, some ⟨.ok, image b i⟩) := by
  rw [readRecord, ho]
  simp only [bits, ← hn, finOf?_val, List.isEmpty_nil, if_true]
  rfl

end

theorem selectedBank_eq (s : State) (selector : BitVec 8) :
    selectedBank s selector.toNat =
      if selector = 1 ∨ selector = 2 then some (if selector = 1 then s.active else s.shadow) else none := by
  by_cases h1 : selector = 1
  · subst h1; rfl
  · by_cases h2 : selector = 2
    · subst h2; rfl
    · rw [if_neg (not_or.2 ⟨h1, h2⟩)]
      unfold selectedBank
      split
      · next h => exact absurd (BitVec.eq_of_toNat_eq h) h1
      · next h => exact absurd (BitVec.eq_of_toNat_eq h) h2
      · rfl

theorem readRecord_badSelector {n : Nat} {image : Bank → Fin n → List Word} (ho : rq.operands = [w])
    (hn : (w.extractLsb' 0 8).toNat < n) (h1 : w.extractLsb' 8 8 ≠ 1) (h2 : w.extractLsb' 8 8 ≠ 2) :
    readRecord n image rq s = (s, some ⟨.badValue, []⟩) := by
  rw [readRecord_reads (i := ⟨_, hn⟩) ho rfl, selectedBank_eq, if_neg (not_or.2 ⟨h1, h2⟩)]

theorem readRecord_image {n : Nat} {image : Bank → Fin n → List Word} {i : Fin n} (ho : rq.operands = [w])
    (hn : i.val = (w.extractLsb' 0 8).toNat) (h : w.extractLsb' 8 8 = 1 ∨ w.extractLsb' 8 8 = 2) :
    readRecord n image rq s =
      (s, some ⟨.ok, image (if w.extractLsb' 8 8 = 1 then s.active else s.shadow) i⟩) := by
  rw [readRecord_reads ho hn, selectedBank_eq, if_pos h]

/-- Settles O32: the tests of a read in their order, and the image of the record. -/
theorem readsReturnImages : Obligations.ReadsReturnImages := by
  refine ⟨fun b => ⟨fun _ => rfl, fun _ => rfl, fun _ => rfl⟩, ?_⟩
  intro s rq rest w h ho n selector bank
  exact ⟨fun hc hn => exec_of_reads h hc rfl rfl (readRecord_badIndex ho hn),
    fun hc hn => exec_of_reads h hc rfl rfl (readRecord_badIndex ho hn),
    fun hc hn => exec_of_reads h hc rfl rfl (readRecord_badIndex ho hn),
    fun h1 h2 => ⟨fun hc hn => exec_of_reads h hc rfl rfl (readRecord_badSelector ho (Nat.lt_succ_of_le hn) h1 h2),
      fun hc hn => exec_of_reads h hc rfl rfl (readRecord_badSelector ho (Nat.lt_succ_of_le hn) h1 h2),
      fun hc hn => exec_of_reads h hc rfl rfl (readRecord_badSelector ho (Nat.lt_succ_of_le hn) h1 h2)⟩,
    fun hbank => ⟨fun i hn hc => exec_of_reads h hc rfl rfl (readRecord_image ho hn hbank),
      fun i hn hc => exec_of_reads h hc rfl rfl (readRecord_image ho hn hbank),
      fun i hn hc => exec_of_reads h hc rfl rfl (readRecord_image ho hn hbank)⟩⟩

/-! ## COMMIT and READ_LAYOUT -/

/-- Settles O34: in the state that the clearing of R110 leaves, the row tests the phase, then the operands. -/
theorem commitIsDeferred : Obligations.CommitIsDeferred := by
  intro s rq rest cleared h hc
  have htake : exec (.commit rq) s = exec (.commit rq) cleared :=
    congrArg Host.Outcome.next (agentTake_clearCrossed (s := s) ⟨h.front, h.room, h.noAnswers⟩ (beq_iff_eq.2 hc))
  refine ⟨fun hidle ho => htake.trans ?_, fun hbusy => htake.trans ?_, fun hidle ho => htake.trans ?_⟩
  · refine next_eq (agentTake_deferred (row := hasCode CommandCode.commit) h (beq_iff_eq.2 hc) (hc ▸ rfl) ?_)
    rw [commit, unlessCommit_idle (s := { cleared with requests := rest }) hidle, noOperands_nil ho]
  · exact exec_of_reads h hc rfl rfl (unlessCommit_busy (s := { cleared with requests := rest }) hbusy _)
  · refine exec_of_reads h hc rfl rfl ?_
    rw [commit, unlessCommit_idle (s := { cleared with requests := rest }) hidle, noOperands_ne_nil ho]
    rfl

section
variable {more : List Word}

theorem readLayout_empty (ho : rq.operands = []) : readLayout rq s = (s, some ⟨.badValue, []⟩) := by
  rw [readLayout, ho]
  rfl

theorem readLayout_badIndex (ho : rq.operands = w :: more) (h : 7 < (w.extractLsb' 8 8).toNat ∨ 95 < (w.extractLsb' 0 8).toNat) :
    readLayout rq s = (s, some ⟨.badIndex, []⟩) := by
  rw [readLayout, ho]
  by_cases hn : 8 ≤ (w.extractLsb' 8 8).toNat
  · simp only [bits, finOf?_of_le hn]
    rfl
  · simp only [bits, finOf?_of_lt (Nat.lt_of_not_le hn)]
    exact if_pos (h.resolve_left hn)

theorem readLayout_badCount (ho : rq.operands = w :: more) (hmore : more ≠ []) (hn : (w.extractLsb' 8 8).toNat ≤ 7)
    (hfirst : (w.extractLsb' 0 8).toNat ≤ 95) : readLayout rq s = (s, some ⟨.badValue, []⟩) := by
  rw [readLayout, ho]
  simp only [bits, finOf?_of_lt (Nat.lt_succ_of_le hn), if_neg (Nat.not_lt.2 hfirst), List.isEmpty_iff, if_neg hmore]
  rfl

theorem readLayout_reads {i : Fin 8} (ho : rq.operands = [w]) (hn : i.val = (w.extractLsb' 8 8).toNat)
    (hfirst : (w.extractLsb' 0 8).toNat ≤ 95) :
    readLayout rq s = (s, some ⟨.ok, layoutData s i (w.extractLsb' 0 8).toNat⟩) := by
  rw [readLayout, ho]
  simp only [bits, ← hn, finOf?_val, if_neg (Nat.not_lt.2 hfirst), List.isEmpty_nil, if_true]

end

/-- Settles O35: the two index tests, and the run of entries of the active layout, or of none. -/
theorem readLayoutReturnsARun : Obligations.ReadLayoutReturnsARun := by
  refine ⟨fun x => by cases x <;> rfl, ?_⟩
  intro s rq rest w h hc ho n first
  refine ⟨fun hbad => exec_of_reads h hc rfl rfl (readLayout_badIndex ho hbad), ?_⟩
  intro i hn hfirst layout page
  refine (exec_of_reads h hc rfl rfl (readLayout_reads ho hn hfirst)).trans ?_
  have hdata : layoutData s i first =
      [s.generation ++ BitVec.ofBool (s.active.stream i).enabled ++ BitVec.ofNat 7 i ++ BitVec.ofNat 8 layout.length,
        0#8 ++ BitVec.ofNat 8 layout.entries.length ++ BitVec.ofNat 8 first ++ BitVec.ofNat 8 page.length] ++
      page.map fun e => BitVec.ofNat 8 e.offset ++ BitVec.ofNat 8 e.width ++ BitVec.ofNat 8 e.channel ++ e.role.code := by
    simp only [layoutData, page, layout]
    cases s.layouts.get i <;> rfl
  exact congrArg (fun data => Host.Outcome.next (s.answered rq rest .ok data)) hdata

/-! ## FETCH_EXCEPTIONS and ACK_EXCEPTIONS -/

theorem fetchExceptions_badCount (ho : rq.operands.length ≠ 1) : fetchExceptions rq s = (s, some ⟨.badValue, []⟩) := by
  unfold fetchExceptions
  split
  · next w h => exact absurd (by rw [h]; rfl) ho
  · rfl

theorem fetchExceptions_of_after {after : Option Seq} (ho : rq.operands = [w]) (h : afterOperand w = some after) :
    fetchExceptions rq s = (s, some ⟨.ok, fetchData s.exc.queue after⟩) := by
  simp only [fetchExceptions, ho, h]

theorem afterOperand_absent (h : w.extractLsb' 24 8 = 0) : afterOperand w = some none := by
  rw [afterOperand, bits, h]
  rfl

theorem afterOperand_present (h : w.extractLsb' 24 8 = 1) : afterOperand w = some (some (w.extractLsb' 0 16)) := by
  rw [afterOperand, bits, h]
  rfl

theorem afterOperand_unknown (h : 1 < (w.extractLsb' 24 8).toNat) : afterOperand w = none := by
  unfold afterOperand bits
  split
  · omega
  · omega
  · rfl

theorem fetchExceptions_unknown (ho : rq.operands = [w]) (h : 1 < (w.extractLsb' 24 8).toNat) :
    fetchExceptions rq s = (s, some ⟨.badValue, []⟩) := by
  simp only [fetchExceptions, ho, afterOperand_unknown h]
  rfl

/-- The page of the records from the first one to return on. -/
theorem fetchData_eq {queue page : List ExceptionRecord} {after : Option Seq} {restarted : Bool}
    (h : fetchFrom queue after = (page, restarted)) :
    fetchData queue after =
      (BitVec.ofBool (decide (8 < page.length)) ++ BitVec.ofBool restarted ++ 0#14 ++ BitVec.ofNat 8 queue.length ++
        BitVec.ofNat 8 (page.take 8).length) :: (page.take 8).flatMap ExceptionRecord.words := by
  simp only [fetchData, h]
  rfl

/-- Settles O36: where the page begins, and what the operand must be. -/
theorem fetchReturnsAPage : Obligations.FetchReturnsAPage := by
  intro s rq rest h hc answer
  have hpage {w : Word} {after : Option Seq} {page : List ExceptionRecord} {restarted : Bool} (ho : rq.operands = [w])
      (hafter : afterOperand w = some after) (hfrom : fetchFrom s.exc.queue after = (page, restarted)) :
      exec (.fetchExceptions rq) s = .next (s.answered rq rest .ok (answer page restarted)) := by
    refine (exec_of_reads h hc rfl rfl (fetchExceptions_of_after ho hafter)).trans ?_
    exact congrArg (fun data => Host.Outcome.next (s.answered rq rest .ok data)) (fetchData_eq hfrom)
  refine ⟨fun w ho hw => hpage ho (afterOperand_absent hw) rfl, fun w before r later ho hw hqueue hr hbefore => ?_,
    fun w ho hw hnone => ?_, fun w ho hw => exec_of_reads h hc rfl rfl (fetchExceptions_unknown ho hw),
    fun ho => exec_of_reads h hc rfl rfl (fetchExceptions_badCount ho)⟩
  · refine hpage ho (afterOperand_present hw) ?_
    rw [fetchFrom, hqueue, recordsAfter_eq before r later hr fun k hk => hr ▸ hbefore k hk]
  · refine hpage ho (afterOperand_present hw) ?_
    rw [fetchFrom, recordsAfter_none _ hnone]

theorem ackExceptions_badCount (ho : rq.operands.length ≠ 1) : ackExceptions rq s = (s, some ⟨.badValue, []⟩) := by
  unfold ackExceptions
  split
  · next w h => exact absurd (by rw [h]; rfl) ho
  · rfl

theorem ackExceptions_stale (ho : rq.operands = [w]) (h : ∀ k ∈ s.exc.queue, k.seq ≠ w.extractLsb' 0 16) :
    ackExceptions rq s = (s, some ⟨.stale, occupancyData s.exc.queue⟩) := by
  simp only [ackExceptions, ho, recordsAfter_none _ h]

theorem ackExceptions_removes {before later : List ExceptionRecord} {r : ExceptionRecord} (ho : rq.operands = [w])
    (hqueue : s.exc.queue = before ++ r :: later) (hr : r.seq = w.extractLsb' 0 16) (hbefore : ∀ k ∈ before, k.seq ≠ r.seq) :
    ackExceptions rq s = ({ s with exc := s.exc.acknowledge later }, some ⟨.ok, occupancyData later⟩) := by
  simp only [ackExceptions, ho, hqueue, recordsAfter_eq before r later hr fun k hk => hr ▸ hbefore k hk]

/-- Settles O37: the records that stay after the named one, or none named. -/
theorem ackRemovesUpTo : Obligations.AckRemovesUpTo := by
  intro s rq rest h hc
  refine ⟨fun w before r later ho hqueue hr hbefore => ?_, fun w ho hnone => ?_, fun ho => ?_⟩
  · have hanswer := exec_of_body (i := .ackExceptions rq) (t := { s with exc := s.exc.acknowledge later }) h hc rfl rfl
      (ackExceptions_removes (s := { s with requests := rest }) ho hqueue hr hbefore) rfl rfl
    refine ⟨fun hsome => hanswer.trans ?_, ?_⟩
    · rw [ExceptionUnit.acknowledge, if_neg (mt List.isEmpty_iff.1 hsome)]
      rfl
    · rintro rfl
      exact hanswer
  · exact exec_of_reads h hc rfl rfl (ackExceptions_stale (s := { s with requests := rest }) ho hnone)
  · exact exec_of_reads h hc rfl rfl (ackExceptions_badCount ho)

end

end Sys2Proof.Machine
end


section
/-! Proofs about the sticky flags, the divert hold, the counters, the parameters and the resets as commands (R49, R117 to R119, R175
to R180, R184 to R186), and about operand counts (R168). -/

namespace Sys2Proof.Machine

set_option Elab.async false

section
variable {s : State} {rq : Request} {w : Word} {more : List Word}

/-! ## READ_STICKY and CLEAR_STICKY -/

/-- Group j of a word of eight groups stands at bits 31-4j to 28-4j. -/
theorem nibbleWord_group (l : List (BitVec 4)) {j : Nat} (hj : j < 8) : (nibbleWord l).extractLsb' (28 - 4 * j) 4 = l.getD j 0 := by
  unfold nibbleWord
  interval_cases j <;> repeat rw [BitVec.extractLsb'_append_eq_of_le (by decide)]
  · exact BitVec.extractLsb'_eq_self
  all_goals
    rw [BitVec.extractLsb'_append_eq_of_add_le (by decide)]
    exact BitVec.extractLsb'_eq_self

/-- Group k of the run is in word k / 8. -/
theorem nibbleWords_group (l : List (BitVec 4)) {n k : Nat} (hk : k / 8 < n) :
    ((nibbleWords n l).getD (k / 8) 0).extractLsb' (28 - 4 * (k % 8)) 4 = l.getD k 0 := by
  have hword : (nibbleWords n l).getD (k / 8) 0 = nibbleWord (l.drop (8 * (k / 8))) := by
    simp [nibbleWords, hk]
  rw [hword, nibbleWord_group _ (Nat.mod_lt k (by decide))]
  simp [List.getD_eq_getElem?_getD, Nat.div_add_mod]

/-- The operands echoed by READ_STICKY are the low half of the operand word. -/
theorem echoedRun (w : Word) :
    (0#16 ++ BitVec.ofNat 8 (w.extractLsb' 8 8).toNat ++ BitVec.ofNat 8 (w.extractLsb' 0 8).toNat : Word) = 0#16 ++ w.extractLsb' 0 16 := by
  rw [BitVec.ofNat_toNat, BitVec.ofNat_toNat]
  ext i hi
  simp
  grind

theorem readSticky_empty (ho : rq.operands = []) : readSticky rq s = (s, some ⟨.badValue, []⟩) := by
  rw [readSticky, ho]
  rfl

theorem readSticky_badIndex (ho : rq.operands = w :: more) (h : 127 < (w.extractLsb' 8 8).toNat) :
    readSticky rq s = (s, some ⟨.badIndex, []⟩) := by
  rw [readSticky, ho]
  exact if_pos h

theorem readSticky_badValue (ho : rq.operands = w :: more) (hfirst : (w.extractLsb' 8 8).toNat ≤ 127)
    (h : (w.extractLsb' 0 8).toNat = 0 ∨ 128 < (w.extractLsb' 8 8).toNat + (w.extractLsb' 0 8).toNat ∨ more ≠ []) :
    readSticky rq s = (s, some ⟨.badValue, []⟩) := by
  rw [readSticky, ho]
  exact (if_neg (Nat.not_lt.2 hfirst)).trans (if_pos h)

theorem readSticky_reads (ho : rq.operands = [w]) (hcount : 1 ≤ (w.extractLsb' 0 8).toNat)
    (hrun : (w.extractLsb' 8 8).toNat + (w.extractLsb' 0 8).toNat ≤ 128) :
    readSticky rq s = (s, some ⟨.ok, stickyData s (w.extractLsb' 8 8).toNat (w.extractLsb' 0 8).toNat⟩) := by
  rw [readSticky, ho]
  refine (if_neg (Nat.not_lt.2 ?_)).trans (if_neg ?_)
  · show (w.extractLsb' 8 8).toNat ≤ 127
    omega
  · rintro (hzero | hbeyond | hmore)
    · exact absurd hzero (Nat.ne_of_gt hcount)
    · exact absurd hrun (Nat.not_le.2 hbeyond)
    · exact hmore rfl

theorem clearSticky_badCount (ho : rq.operands.length ≠ 1) : clearSticky rq s = (s, some ⟨.badValue, []⟩) := by
  unfold clearSticky
  split
  · next w h => exact absurd (by rw [h]; rfl) ho
  · rfl

theorem clearSticky_one {ch : Fin 128} (ho : rq.operands = [w]) (h : w.extractLsb' 24 8 = 1)
    (hch : ch.val = (w.extractLsb' 0 8).toNat) :
    clearSticky rq s = ({ s with sticky := s.sticky.set ch .clear }, some ⟨.ok, []⟩) := by
  simp only [clearSticky, ho, bits, h, ← hch, finOf?_val]
  rfl

theorem clearSticky_badIndex (ho : rq.operands = [w]) (h : w.extractLsb' 24 8 = 1) (hch : 128 ≤ (w.extractLsb' 0 8).toNat) :
    clearSticky rq s = (s, some ⟨.badIndex, []⟩) := by
  simp only [clearSticky, ho, bits, h, finOf?_of_le hch]
  rfl

theorem clearSticky_all (ho : rq.operands = [w]) (h : w.extractLsb' 24 8 = 2) :
    clearSticky rq s = ({ s with sticky := Vector.replicate 128 .clear }, some ⟨.ok, []⟩) := by
  simp only [clearSticky, ho, bits, h]
  rfl

theorem clearSticky_badCode (ho : rq.operands = [w]) (h1 : w.extractLsb' 24 8 ≠ 1) (h2 : w.extractLsb' 24 8 ≠ 2) :
    clearSticky rq s = (s, some ⟨.badValue, []⟩) := by
  simp only [clearSticky, ho, bits]
  split
  · next h => exact absurd (BitVec.eq_of_toNat_eq h) h1
  · next h => exact absurd (BitVec.eq_of_toNat_eq h) h2
  · rfl

/-- Settles O38: the tests of a read and the groups of its answer, and the codes of a clear. -/
theorem stickyIsReadAndCleared : Obligations.StickyIsReadAndCleared := by
  refine ⟨?_, fun s rq rest h hc w ho => ⟨fun ch hw hch => ?_, fun hw hch => ?_, fun hw => ?_, fun h1 h2 => ?_⟩⟩
  · intro s rq rest w h hc ho first count
    refine ⟨fun hbad => exec_of_reads h hc rfl rfl (readSticky_badIndex ho hbad),
      fun hfirst hbad => exec_of_reads h hc rfl rfl (readSticky_badValue ho hfirst (hbad.imp_right .inl)), fun hcount hrun => ?_⟩
    refine ⟨nibbleWords ((count + 7) / 8) (((s.sticky.toList.drop first).take count).map Sticky.nibble), ?_, ?_, ?_⟩
    · refine (exec_of_reads h hc rfl rfl (readSticky_reads ho hcount hrun)).trans ?_
      exact congrArg (fun v => Host.Outcome.next (s.answered rq rest .ok (v :: _))) (echoedRun w)
    · simp [nibbleWords]
    · intro k ch hk hch flags
      have hflags : (((s.sticky.toList.drop first).take count).map Sticky.nibble).getD k 0 = flags.nibble := by
        simp [List.getD_eq_getElem?_getD, hk, ← hch, flags, Vector.get_eq_getElem]
      exact (nibbleWords_group _ (by omega)).trans hflags
  · exact exec_of_body h hc rfl rfl { s with sticky := s.sticky.set ch .clear }
      (clearSticky_one (s := { s with requests := rest }) ho hw hch) rfl rfl
  · exact exec_of_reads h hc rfl rfl (clearSticky_badIndex ho hw hch)
  · exact exec_of_body h hc rfl rfl { s with sticky := Vector.replicate 128 .clear }
      (clearSticky_all (s := { s with requests := rest }) ho hw) rfl rfl
  · exact exec_of_reads h hc rfl rfl (clearSticky_badCode ho h1 h2)

/-! ## RELEASE_HOLD -/

theorem releaseHold_badCode (h1 : operandCode rq ≠ some 1) (h2 : operandCode rq ≠ some 2) :
    releaseHold rq s = (s, some ⟨.badValue, []⟩) := by
  unfold releaseHold
  split
  · next h => exact absurd h h1
  · next h => exact absurd h h2
  · rfl

theorem releaseHold_notHeld (hcode : operandCode rq = some 1 ∨ operandCode rq = some 2) (hnot : ∀ f t, s.hold ≠ .held f t) :
    releaseHold rq s = (s, some ⟨.notHeld, holdStateData s.hold⟩) := by
  cases hhold : s.hold with
  | held f t => exact absurd hhold (hnot f t)
  | empty | releasing =>
    rcases hcode with hcode | hcode <;>
      rw [releaseHold, hcode, hhold] <;> rfl

theorem releaseHold_forward {f : CondFrame} {t : Timer} (hcode : operandCode rq = some 1) (hheld : s.hold = .held f t) :
    releaseHold rq s = releaseForward f rq s := by
  simp only [releaseHold, hcode, hheld]
  rfl

theorem releaseForward_of_free {f : CondFrame} (h : s.outFree = true) :
    releaseForward f rq s = ({ s with hold := .empty }.enterOutput (.conditioned { f with released := true }),
      some ⟨.ok, releaseData { f with released := true }⟩) := by
  simp only [releaseForward, releaseHeld, h, if_true]

theorem releaseForward_of_full {f : CondFrame} (h : s.outFree = false) :
    releaseForward f rq s =
      ({ s with hold := .releasing { f with released := true } .request, deferredRelease := some rq }, none) := by
  simp only [releaseForward, releaseHeld, h, Bool.false_eq_true, if_false]

theorem releaseHold_discard {f : CondFrame} {t : Timer} (hcode : operandCode rq = some 2) (hheld : s.hold = .held f t) :
    releaseHold rq s = releaseDiscard f s := by
  simp only [releaseHold, hcode, hheld]
  rfl

/-- A RELEASE_HOLD that a row takes is answered as its body answers it. -/
theorem exec_releaseHold {rest : List Request} (h : Takes s rq rest) (hc : rq.code = CommandCode.releaseHold) {i : Instr}
    {other : BitVec 8} (he : exec i s = .next (agentTake (isRelease other) releaseHold rq s)) (hother : operandCode rq ≠ some other)
    (t : State) {st : Status} {data : List Word}
    (hbody : releaseHold rq { s with requests := rest } = ({ t with requests := rest }, some ⟨st, data⟩))
    (hresp : t.responses = s.responses) (hans : t.answers = s.answers) : exec i s = .next (t.answered rq rest st data) :=
  exec_answered h he (by simp [isRelease, hc, hother]) (hc ▸ rfl) t st data hbody hresp hans

theorem operandCode_ne {code other : BitVec 8} (ho : rq.operands = [w]) (h : w.extractLsb' 0 8 = code) (hne : code ≠ other) :
    operandCode rq ≠ some other := by
  rw [operandCode_one ho, h]
  exact fun heq => hne (Option.some.inj heq)

/-- Settles O39: the state of the hold, the operand code, and the room in the output queue. -/
theorem releaseHoldActs : Obligations.ReleaseHoldActs := by
  intro s rq rest h hc
  refine ⟨?_, fun w ho hnot => ⟨fun hw => ?_, fun hw => ?_⟩, fun hneither => ?_⟩
  · intro w f t ho hheld data marked
    refine ⟨fun hw hfree => ?_, fun hw hfull => next_eq ?_, fun hw => ?_⟩
    · have hroom : ({ s with requests := rest } : State).outFree = true := decide_eq_true hfree
      refine exec_releaseHold h hc rfl (operandCode_ne ho hw (by decide))
        { s with hold := .empty, outQueue := s.outQueue ++ [.conditioned marked] } ?_ rfl rfl
      exact (releaseHold_forward (s := { s with requests := rest }) ((operandCode_one ho).trans (congrArg some hw)) hheld).trans
        (releaseForward_of_free hroom)
    · have hnone : ({ s with requests := rest } : State).outFree = false := decide_eq_false (Nat.not_lt.2 hfull)
      have hother := operandCode_ne ho hw (other := ReleaseCode.discard) (by decide)
      exact agentTake_deferred (row := isRelease ReleaseCode.discard) h (by simp [isRelease, hc, hother]) (hc ▸ rfl)
        ((releaseHold_forward (s := { s with requests := rest }) ((operandCode_one ho).trans (congrArg some hw)) hheld).trans
          (releaseForward_of_full hnone))
    · refine exec_releaseHold h hc rfl (operandCode_ne ho hw (by decide)) _
        (releaseHold_discard (s := { s with requests := rest }) ((operandCode_one ho).trans (congrArg some hw)) hheld) rfl rfl
  · refine exec_releaseHold h hc rfl (operandCode_ne ho hw (by decide)) s
      (releaseHold_notHeld (s := { s with requests := rest }) (.inl ((operandCode_one ho).trans (congrArg some hw))) hnot) rfl rfl
  · refine exec_releaseHold h hc rfl (operandCode_ne ho hw (by decide)) s
      (releaseHold_notHeld (s := { s with requests := rest }) (.inr ((operandCode_one ho).trans (congrArg some hw))) hnot) rfl rfl
  · have h1 : operandCode rq ≠ some 1 := operandCode_ne_some_iff.2 fun w ho => (hneither w ho).1
    have h2 : operandCode rq ≠ some 2 := operandCode_ne_some_iff.2 fun w ho => (hneither w ho).2
    exact ⟨exec_releaseHold h hc rfl h2 s (releaseHold_badCode h1 h2) rfl rfl,
      exec_releaseHold h hc rfl h1 s (releaseHold_badCode h1 h2) rfl rfl⟩

/-! ## READ_COUNTERS and CLEAR_COUNTERS -/

theorem counters_of_group {g : CounterGroup} (h : (operandCode rq).bind groupOfCode = some g) :
    readCounters rq s = (s, some ⟨.ok, counterData s g⟩) ∧ clearCounters rq s = (clearGroup s g, some ⟨.ok, counterData s g⟩) := by
  simp only [readCounters, clearCounters, h, and_self]

theorem counters_of_none (h : (operandCode rq).bind groupOfCode = none) :
    readCounters rq s = (s, some ⟨.badValue, []⟩) ∧ clearCounters rq s = (s, some ⟨.badValue, []⟩) := by
  simp only [readCounters, clearCounters, h, refuse, and_self]

theorem groupOfCode_eq_none {code : BitVec 8} (h : code.toNat = 0 ∨ 4 < code.toNat) : groupOfCode code = none := by
  unfold groupOfCode
  split
  case h_5 => rfl
  all_goals exact absurd h (by decide)

theorem toList_eq_map_get {α : Type} {n : Nat} (v : Vector α n) : v.toList = (List.finRange n).map v.get :=
  List.ext_getElem (by simp) fun i h h' => by simp [Vector.get_eq_getElem]

theorem engineCounterList (e : EngineCounters) :
    (e.streams.toList.map StreamCounters.list).flatten =
      (List.finRange 8).flatMap fun i => [(e.streams.get i).converted, (e.streams.get i).exceptions, (e.streams.get i).gaps] := by
  rw [toList_eq_map_get, List.map_map, List.flatMap_def]
  rfl

/-- Settles O40: the group that the selector names, its counters, and what a clear leaves of it. -/
theorem countersAreReadAndCleared : Obligations.CountersAreReadAndCleared := by
  refine ⟨fun c hc => if_neg hc, rfl, ?_⟩
  intro s rq rest h lane l e hold laneData engineData holdData agentData
  have hgroup {w : Word} {code : BitVec 8} {g : CounterGroup} (ho : rq.operands = [w]) (hw : w.extractLsb' 0 8 = code)
      (hg : groupOfCode code = some g) : (operandCode rq).bind groupOfCode = some g := by
    rw [operandCode_one ho, hw]
    exact hg
  have hengine : counterData s .engine = 2 :: engineData := by
    rw [counterData, groupCounters, engineCounterList]
    rfl
  refine ⟨fun w ho => ⟨fun hc => ?_, fun hc => ?_⟩, fun hnone => ?_⟩
  · have hread {g : CounterGroup} (hg : (operandCode rq).bind groupOfCode = some g) :
        exec (.readCounters rq) s = .next (s.answered rq rest .ok (counterData s g)) :=
      exec_of_reads h hc rfl rfl (counters_of_group (s := { s with requests := rest }) hg).1
    exact ⟨fun hw => hread (hgroup ho hw rfl), fun hw => hengine ▸ hread (hgroup ho hw rfl), fun hw => hread (hgroup ho hw rfl),
      fun hw => hread (hgroup ho hw rfl)⟩
  · have hclear {g : CounterGroup} (hg : (operandCode rq).bind groupOfCode = some g) :
        exec (.clearCounters rq) s = .next ((clearGroup s g).answered rq rest .ok (counterData s g)) := by
      refine exec_of_body h hc rfl rfl (clearGroup s g)
        ((counters_of_group (s := { s with requests := rest }) hg).2.trans ?_) ?_ ?_ <;> cases g <;> rfl
    exact ⟨fun hw => hclear (hgroup ho hw rfl), fun hw => hengine ▸ hclear (hgroup ho hw rfl), fun hw => hclear (hgroup ho hw rfl),
      fun hw => hclear (hgroup ho hw rfl)⟩
  · have hbad : (operandCode rq).bind groupOfCode = none := by
      unfold operandCode
      split
      · next w ho => exact groupOfCode_eq_none (hnone w ho)
      · rfl
    exact ⟨fun hc => exec_of_reads h hc rfl rfl (counters_of_none hbad).1,
      fun hc => exec_of_reads h hc rfl rfl (counters_of_none hbad).2⟩

/-! ## SET_PARAMETER and READ_PARAMETER -/

theorem parameterOfCode_eq_none {n : Nat} (h : n = 0 ∨ 4 < n) : parameterOfCode n = none := by
  unfold parameterOfCode
  split
  case h_5 => rfl
  all_goals omega

theorem exists_parameterOfCode {n : Nat} (h1 : 1 ≤ n) (h4 : n ≤ 4) : ∃ k, parameterOfCode n = some k := by
  interval_cases n <;> exact ⟨_, rfl⟩

theorem setParameter_empty (ho : rq.operands = []) : setParameter rq s = (s, some ⟨.badValue, []⟩) := by
  rw [setParameter, ho]
  rfl

theorem setParameter_badIndex (ho : rq.operands = w :: more) (h : parameterOfCode (w.extractLsb' 0 8).toNat = none) :
    setParameter rq s = (s, some ⟨.badIndex, []⟩) := by
  simp only [setParameter, ho, bits, h, refuse]

theorem setParameter_badCount {k : Parameter} (ho : rq.operands = w :: more) (h : parameterOfCode (w.extractLsb' 0 8).toNat = some k)
    (hmore : more.length ≠ 1) : setParameter rq s = (s, some ⟨.badValue, []⟩) := by
  simp only [setParameter, ho, bits, h]
  split
  · exact absurd rfl hmore
  · rfl

section
variable {v : Word} {k : Parameter}

theorem setParameter_refuses (ho : rq.operands = [w, v]) (h : parameterOfCode (w.extractLsb' 0 8).toNat = some k)
    (hnone : s.params.write k v.toNat = none) : setParameter rq s = (s, some ⟨.badValue, []⟩) := by
  simp only [setParameter, ho, bits, h, hnone, refuse]

theorem setParameter_sets {q : Params} (ho : rq.operands = [w, v]) (h : parameterOfCode (w.extractLsb' 0 8).toNat = some k)
    (hsome : s.params.write k v.toNat = some q) :
    setParameter rq s = ({ s with params := q }, some ⟨.ok, parameterData q k⟩) := by
  simp only [setParameter, ho, bits, h, hsome]

theorem write_unmatched_of_large {p : Params} {n : Nat} (h : 1 < n) : p.write .unmatched n = none := by
  obtain ⟨m, rfl⟩ := Nat.exists_eq_add_of_le' h
  rfl

/-- The value in force after a write is the value written. -/
theorem value_of_write {p q : Params} {n : Nat} (h : p.write k n = some q) : q.value k = n := by
  unfold Params.write at h
  cases k with
  | unmatched =>
    dsimp only at h
    split at h <;> cases h <;> rfl
  | _ =>
    dsimp only at h
    split at h <;> cases h
    rfl

theorem parameterData_of_write {p q : Params} (h : p.write k v.toNat = some q) : parameterData q k = [0#24 ++ k.code, v] := by
  rw [parameterData, value_of_write h, BitVec.ofNat_toNat, BitVec.setWidth_eq]

end

theorem readParameter_empty (ho : rq.operands = []) : readParameter rq s = (s, some ⟨.badValue, []⟩) := by
  rw [readParameter, ho]
  rfl

theorem readParameter_badIndex (ho : rq.operands = w :: more) (h : parameterOfCode (w.extractLsb' 0 8).toNat = none) :
    readParameter rq s = (s, some ⟨.badIndex, []⟩) := by
  simp only [readParameter, ho, bits, h, refuse]

theorem readParameter_badCount {k : Parameter} (ho : rq.operands = w :: more) (h : parameterOfCode (w.extractLsb' 0 8).toNat = some k)
    (hmore : more ≠ []) : readParameter rq s = (s, some ⟨.badValue, []⟩) := by
  simp only [readParameter, ho, bits, h]
  exact if_neg (mt List.isEmpty_iff.1 hmore)

theorem readParameter_reads {k : Parameter} (ho : rq.operands = [w]) (h : parameterOfCode (w.extractLsb' 0 8).toNat = some k) :
    readParameter rq s = (s, some ⟨.ok, parameterData s.params k⟩) := by
  simp only [readParameter, ho, bits, h]
  rfl

/-- Settles O41: the code, the operand count, and the range of the parameter that the code names. -/
theorem parametersAreSetAndRead : Obligations.ParametersAreSetAndRead := by
  refine fun s rq rest h => ⟨fun w others ho hn => ⟨fun hc => ?_, fun hc => ?_⟩, ?_, ?_⟩
  · exact exec_of_reads h hc rfl rfl (setParameter_badIndex ho (parameterOfCode_eq_none hn))
  · exact exec_of_reads h hc rfl rfl (readParameter_badIndex ho (parameterOfCode_eq_none hn))
  · intro w v ho hc code p sets refuses
    have hsets {k : Parameter} {q : Params} (hcode : code = k.code) (hk : parameterOfCode k.code.toNat = some k)
        (hwrite : p.write k v.toNat = some q) : sets q := by
      have hdata : [0#24 ++ code, v] = parameterData q k := by rw [hcode, parameterData_of_write hwrite]
      simp only [sets, hdata]
      exact exec_of_body h hc rfl rfl { s with params := q }
        (setParameter_sets (s := { s with requests := rest }) ho ((congrArg _ (congrArg _ hcode)).trans hk) hwrite) rfl rfl
    have hrefuses {k : Parameter} (hcode : code = k.code) (hk : parameterOfCode k.code.toNat = some k)
        (hwrite : p.write k v.toNat = none) : refuses :=
      exec_of_reads h hc rfl rfl
        (setParameter_refuses (s := { s with requests := rest }) ho ((congrArg _ (congrArg _ hcode)).trans hk) hwrite)
    refine ⟨fun hcode => ⟨fun hin => ?_, fun hout => ?_⟩, fun hcode => ⟨fun hin => ?_, fun hout => ?_⟩,
      fun hcode => ⟨fun hin => ?_, fun hout => ?_⟩, fun hcode => ⟨fun hin => ?_, fun hin => ?_, fun hout => ?_⟩⟩
    · exact hsets (k := .coalesceInterval) hcode rfl (if_pos hin)
    · exact hrefuses (k := .coalesceInterval) hcode rfl (if_neg (by omega))
    · exact hsets (k := .noticeThreshold) hcode rfl (if_pos hin)
    · exact hrefuses (k := .noticeThreshold) hcode rfl (if_neg (by omega))
    · exact hsets (k := .holdTimeout) hcode rfl (if_pos hin)
    · exact hrefuses (k := .holdTimeout) hcode rfl (if_neg (by omega))
    · exact hsets (k := .unmatched) hcode rfl (by rw [hin]; rfl)
    · exact hsets (k := .unmatched) hcode rfl (by rw [hin]; rfl)
    · exact hrefuses (k := .unmatched) hcode rfl (write_unmatched_of_large hout)
  · intro w ho hc code reads
    have hreads {k : Parameter} {n : Nat} (hcode : code = k.code) (hk : parameterOfCode k.code.toNat = some k)
        (hvalue : s.params.value k = n) : reads n := by
      have hdata : [0#24 ++ code, BitVec.ofNat 32 n] = parameterData s.params k := by rw [hcode, parameterData, hvalue]
      simp only [reads, hdata]
      exact exec_of_reads h hc rfl rfl
        (readParameter_reads (s := { s with requests := rest }) ho ((congrArg _ (congrArg _ hcode)).trans hk))
    exact ⟨fun hcode => hreads (k := .coalesceInterval) hcode rfl rfl, fun hcode => hreads (k := .noticeThreshold) hcode rfl rfl,
      fun hcode => hreads (k := .holdTimeout) hcode rfl rfl,
      fun hcode hforward => hreads (k := .unmatched) hcode rfl (congrArg Unmatched.code hforward),
      fun hcode hdiscard => hreads (k := .unmatched) hcode rfl (congrArg Unmatched.code hdiscard)⟩

/-! ## RESET -/

/-- A RESET that a row takes: its body's answer, which finds the agent's queues as the body left them. -/
theorem exec_reset {rest : List Request} (h : Takes s rq rest) (hc : rq.code = CommandCode.reset) {i : Instr}
    {other1 other2 : BitVec 8} (he : exec i s = .next (agentTake (isReset other1 other2) reset rq s))
    (h1 : operandCode rq ≠ some other1) (h2 : operandCode rq ≠ some other2) {t : State} {r : Reply}
    (hbody : reset rq { s with requests := rest } = (t, some r)) : exec i s = .next (t.answer rq r) := by
  rw [he, agentTake_untagged h.toUntagged (isReset_iff.2 ⟨hc, h1, h2⟩), execute_own { s with requests := rest } reset rq
    h.toUntagged.tagFree h.notCached (hc ▸ rfl) h.admitted, hbody]

theorem reset_badCode (h1 : operandCode rq ≠ some 1) (h2 : operandCode rq ≠ some 2) (h3 : operandCode rq ≠ some 3) :
    reset rq s = (s, some ⟨.badValue, []⟩) := by
  unfold reset
  split
  · next h => exact absurd h h1
  · next h => exact absurd h h2
  · next h => exact absurd h h3
  · rfl

/-- The three rows answer BAD_VALUE to a RESET that names no scope. -/
theorem exec_reset_badCode {rest : List Request} (h : Takes s rq rest) (hc : rq.code = CommandCode.reset)
    (h1 : operandCode rq ≠ some 1) (h2 : operandCode rq ≠ some 2) (h3 : operandCode rq ≠ some 3) :
    exec (.resetPipeline rq) s = .next (s.answered rq rest .badValue []) ∧
    exec (.resetExceptions rq) s = .next (s.answered rq rest .badValue []) ∧
    exec (.resetAll rq) s = .next (s.answered rq rest .badValue []) := by
  have hbody : reset rq { s with requests := rest } = ({ s with requests := rest }, some ⟨.badValue, []⟩) := reset_badCode h1 h2 h3
  have hanswer := State.answer_ready { s with requests := rest } rq ⟨.badValue, []⟩ h.noAnswers h.room
  exact ⟨(exec_reset h hc rfl h2 h3 hbody).trans (congrArg _ hanswer), (exec_reset h hc rfl h1 h3 hbody).trans (congrArg _ hanswer),
    (exec_reset h hc rfl h1 h2 hbody).trans (congrArg _ hanswer)⟩

/-- Settles O43: each body by its operands. -/
theorem operandCountIsTested : Obligations.OperandCountIsTested := by
  intro s rq rest h refused
  refine ⟨fun ho => ?_, ?_, fun w ho hc h1 h4 => ?_, fun ho hc => exec_of_reads h hc rfl rfl (clearSticky_badCount ho),
    fun ho hc => ?_⟩
  · exact ⟨fun hc => exec_of_reads h hc rfl rfl (readRecord_empty ho), fun hc => exec_of_reads h hc rfl rfl (readRecord_empty ho),
      fun hc => exec_of_reads h hc rfl rfl (readRecord_empty ho), fun hc => exec_of_reads h hc rfl rfl (readLayout_empty ho),
      fun hc => exec_of_reads h hc rfl rfl (readSticky_empty ho), fun hc => exec_of_reads h hc rfl rfl (setParameter_empty ho),
      fun hc => exec_of_reads h hc rfl rfl (readParameter_empty ho)⟩
  · intro w x more ho low high
    have hmore : x :: more ≠ [] := List.cons_ne_nil x more
    refine ⟨fun hc hn => exec_of_reads h hc rfl rfl (readRecord_badCount ho hmore (Nat.lt_succ_of_le hn)),
      fun hc hn => exec_of_reads h hc rfl rfl (readRecord_badCount ho hmore (Nat.lt_succ_of_le hn)),
      fun hc hn => exec_of_reads h hc rfl rfl (readRecord_badCount ho hmore (Nat.lt_succ_of_le hn)),
      fun hc hhigh hlow => exec_of_reads h hc rfl rfl (readLayout_badCount ho hmore hhigh hlow),
      fun hc hhigh => exec_of_reads h hc rfl rfl (readSticky_badValue ho hhigh (.inr (.inr hmore))),
      fun hc h1 h4 hothers => ?_, fun hc h1 h4 => ?_⟩ <;> obtain ⟨k, hk⟩ := exists_parameterOfCode h1 h4
    · exact exec_of_reads h hc rfl rfl (setParameter_badCount ho hk (by simpa using hothers))
    · exact exec_of_reads h hc rfl rfl (readParameter_badCount ho hk hmore)
  · obtain ⟨k, hk⟩ := exists_parameterOfCode h1 h4
    exact exec_of_reads h hc rfl rfl (setParameter_badCount ho hk (by simp))
  · have hnone (code : BitVec 8) : operandCode rq ≠ some code := by simp [operandCode_none ho]
    exact exec_reset_badCode h hc (hnone 1) (hnone 2) (hnone 3)

/-- The path of DATA frames after a reset, with the entries that its credit restart counts. -/
theorem emptyDataPath_eq (s : State) :
    emptyDataPath s = { s with
      engine := .idle, ingress := [], outQueue := []
      grants := if s.aRx.state = .up then
          .reset :: (List.replicate 8 .data ++ List.replicate (4 - s.transit.length) .control) else s.grants
      outstanding := if s.aRx.state = .up then 8 else s.outstanding } := by
  unfold emptyDataPath
  dsimp only
  split <;> rfl

theorem abandonCommit_of_none {s : State} (hagree : DeferredAgree s) (h : s.deferredCommit = none) : abandonCommit s = s := by
  have hidle : s.phase = .idle := by simpa [h] using hagree.commit
  rw [abandonCommit, hidle]

theorem abandonCommit_of_some {s : State} (hagree : DeferredAgree s) {d : Request} (h : s.deferredCommit = some d) :
    abandonCommit s = { { s with phase := .idle, pendingLayouts := none, deferredCommit := none, commitEnumerated := false }.answer d
        ⟨.aborted, []⟩ with
      cache := cacheInsert s.cache ⟨d, ⟨s.nodeAddress, d.tag, d.code, .aborted, []⟩, s.commitEnumerated⟩ } := by
  have hbusy : s.phase ≠ .idle := hagree.commit.1 (by rw [h]; rfl)
  have hended := State.endCommit_of_some (s := { s with phase := .idle, pendingLayouts := none }) h (r := ⟨.aborted, []⟩) rfl
  unfold abandonCommit
  split
  · next hidle => exact absurd hidle hbusy
  all_goals exact hended

theorem dropHold_of_empty {s : State} (h : s.hold = .empty) : dropHold s = s := by rw [dropHold, h]

/-- A hold that is not EMPTY is emptied and counted, and a RELEASE_HOLD that waits is answered. -/
theorem dropHold_of_occupied {s : State} (h : s.hold ≠ .empty) :
    dropHold s = { s with
      hold := .empty
      holdCounters := { s.holdCounters with discarded := satInc s.holdCounters.discarded } }.endRelease ⟨.aborted, []⟩ := by
  unfold dropHold
  split
  · next hempty => exact absurd hempty h
  all_goals rfl

/-- Settles O42: the parts of RESET PIPELINE one after another; the other two scopes are its effects and those of RESET EXCEPTIONS. -/
theorem resetsAct : Obligations.ResetsAct := by
  intro s rq rest w h hagree hc ho taken noCommit noHold emptied cleared
  have hcode {code : BitVec 8} (hw : w.extractLsb' 0 8 = code) : operandCode rq = some code :=
    (operandCode_one ho).trans (congrArg some hw)
  have htaken : DeferredAgree taken := { hagree with }
  have hcommit : abandonCommit taken = noCommit := by
    cases hd : s.deferredCommit with
    | none => simp only [noCommit, hd, abandonCommit_of_none htaken hd]
    | some d => simp only [noCommit, hd, abandonCommit_of_some htaken hd]; rfl
  have hcommitKept : noCommit = { taken with
      phase := noCommit.phase, pendingLayouts := noCommit.pendingLayouts, deferredCommit := noCommit.deferredCommit
      commitEnumerated := noCommit.commitEnumerated, responses := noCommit.responses, answers := noCommit.answers
      cache := noCommit.cache } := by
    cases hd : s.deferredCommit with
    | none => simp only [noCommit, hd]
    | some d => simp only [noCommit, hd, State.answer_eq]
  have hhold : dropHold noCommit = noHold := by
    have hsame : noCommit.hold = s.hold ∧ noCommit.holdCounters = s.holdCounters ∧ noCommit.deferredRelease = s.deferredRelease := by
      rw [hcommitKept]
      exact ⟨rfl, rfl, rfl⟩
    obtain ⟨hholdKept, hcountersKept, hreleaseKept⟩ := hsame
    by_cases hempty : s.hold = .empty
    · exact (dropHold_of_empty (hholdKept.trans hempty)).trans (if_pos hempty).symm
    · refine (dropHold_of_occupied (hholdKept ▸ hempty)).trans (Eq.trans ?_ (if_neg hempty).symm)
      rw [hcountersKept]
      cases hr : s.deferredRelease with
      | none => simp only [State.endRelease, hreleaseKept, hr]
      | some d => simp only [State.endRelease, hreleaseKept, hr]
  have hholdKept : noHold = { noCommit with
      hold := noHold.hold, holdCounters := noHold.holdCounters, deferredRelease := noHold.deferredRelease
      responses := noHold.responses, answers := noHold.answers, cache := noHold.cache } := by
    simp only [noHold]
    split
    · rfl
    · split
      · rfl
      · rw [State.answer_eq]
  have hemptied : pipelineReset taken = emptied := by
    have hsame : noHold.aRx = s.aRx ∧ noHold.transit = s.transit ∧ noHold.grants = s.grants ∧ noHold.outstanding = s.outstanding := by
      rw [hholdKept, hcommitKept]
      exact ⟨rfl, rfl, rfl, rfl⟩
    obtain ⟨hlane, htransit, hgrants, houtstanding⟩ := hsame
    rw [pipelineReset, hcommit, hhold, emptyDataPath_eq]
    simp only [emptied, hlane, htransit, hgrants, houtstanding]
  refine ⟨fun hw => ?_, fun hw => ?_, fun hw => ?_, fun h1 h2 h3 => ?_⟩
  · refine exec_reset h hc rfl (operandCode_ne ho hw (by decide)) (operandCode_ne ho hw (by decide)) ?_
    rw [reset, hcode hw]
    exact congrArg (fun t => (t, some _)) hemptied
  · refine (exec_reset h hc rfl (operandCode_ne ho hw (by decide)) (operandCode_ne ho hw (by decide))
      (t := exceptionReset taken) (r := ⟨.ok, [2]⟩) ?_).trans (congrArg _ ?_)
    · rw [reset, hcode hw]
      rfl
    · exact State.answer_ready (exceptionReset taken) rq ⟨.ok, [2]⟩ h.noAnswers h.room
  · refine (exec_reset h hc rfl (operandCode_ne ho hw (by decide)) (operandCode_ne ho hw (by decide))
      (t := fullReset taken) (r := ⟨.ok, [3]⟩) ?_).trans (congrArg _ ?_)
    · rw [reset, hcode hw]
      rfl
    · rw [fullReset, hemptied]
      rfl
  · exact exec_reset_badCode h hc (operandCode_ne ho rfl h1) (operandCode_ne ho rfl h2) (operandCode_ne ho rfl h3)

end

end Sys2Proof.Machine
end


section
/-! Proofs about the compiled layout of a stream (R78 to R86): what placement gives the members of a class, and the classes in their
order. -/

namespace Sys2Proof.Machine

set_option Elab.async false

section
variable {b : Bank} {i : Fin 8}

/-! ## The cursor -/

theorem alignment_words_pos (a : Machine.Alignment) : 0 < a.words := by cases a <;> decide

/-- The cursor is raised to the smallest whole multiple not below it (R81). -/
theorem raiseCursor_spec (cursor : Nat) {align : Nat} (h : 0 < align) :
    align ∣ raiseCursor cursor align ∧ cursor ≤ raiseCursor cursor align ∧ raiseCursor cursor align < cursor + align := by
  have hdiv := Nat.div_add_mod (cursor + align - 1) align
  have hmod := Nat.mod_lt (cursor + align - 1) h
  rw [Nat.mul_comm] at hdiv
  refine ⟨Nat.dvd_mul_left .., ?_, ?_⟩ <;> unfold raiseCursor <;> omega

theorem raiseCursor_zero {align : Nat} (h : 0 < align) : raiseCursor 0 align = 0 := by
  rw [raiseCursor, Nat.div_eq_of_lt (by omega), Nat.zero_mul]

/-! ## What a run of placed slots is -/

/-- The class of the channel of a slot. -/
def slotClass (b : Bank) (e : SlotEntry) : Fin 8 := (b.channel e.channel).outputClass

/-- Where a slot stands after the one before it. -/
def Follows (b : Bank) (e later : SlotEntry) : Prop :=
  (slotClass b later = slotClass b e → later.offset = e.offset + e.width) ∧
  (slotClass b later ≠ slotClass b e →
    (b.classRecord (slotClass b later)).alignment.words ∣ later.offset ∧ e.offset + e.width ≤ later.offset ∧
    later.offset < e.offset + e.width + (b.classRecord (slotClass b later)).alignment.words)

/-- The end of a run of slots that starts at a cursor. -/
def endFrom (cursor : Nat) (entries : List SlotEntry) : Nat := entries.getLast?.elim cursor fun e => e.offset + e.width

theorem endFrom_append (cursor : Nat) (entries later : List SlotEntry) :
    endFrom cursor (entries ++ later) = endFrom (endFrom cursor entries) later := by
  unfold endFrom
  rw [List.getLast?_append]
  cases later.getLast? <;> rfl

theorem endFrom_cons (cursor : Nat) (e : SlotEntry) (later : List SlotEntry) :
    endFrom cursor (e :: later) = endFrom (e.offset + e.width) later := endFrom_append cursor [e] later

theorem endFrom_of_getLast? {entries : List SlotEntry} {e : SlotEntry} (h : entries.getLast? = some e) (cursor : Nat) :
    endFrom cursor entries = e.offset + e.width := by
  rw [endFrom, h]
  rfl

/-! ## The members of one class -/

theorem placeMembers_channels (b : Bank) (cursor : Nat) (members : List (Fin 128)) :
    (placeMembers b cursor members).1.map (·.channel) = members := by
  induction members generalizing cursor with
  | nil => rfl
  | cons ch rest ih => exact congrArg (ch :: ·) (ih _)

theorem placeMembers_head? {cursor : Nat} {members : List (Fin 128)} {e : SlotEntry}
    (h : (placeMembers b cursor members).1.head? = some e) : e.offset = cursor := by
  cases members with
  | nil => cases h
  | cons ch rest => cases h; rfl

theorem placeMembers_end (b : Bank) (cursor : Nat) (members : List (Fin 128)) :
    (placeMembers b cursor members).2 = endFrom cursor (placeMembers b cursor members).1 := by
  induction members generalizing cursor with
  | nil => rfl
  | cons ch rest ih => exact (ih _).trans (endFrom_cons cursor ⟨cursor, _, ch, memberRole (b.channel ch)⟩ _).symm

theorem placeMembers_slot {cursor : Nat} {members : List (Fin 128)} {e : SlotEntry} (h : e ∈ (placeMembers b cursor members).1) :
    e.width = memberWidth (b.channel e.channel) ∧ e.role = memberRole (b.channel e.channel) := by
  induction members generalizing cursor with
  | nil => cases h
  | cons ch rest ih =>
    rcases List.mem_cons.1 h with rfl | hrest
    · exact ⟨rfl, rfl⟩
    · exact ih hrest

/-- Members of one class stand one after another without a gap. -/
theorem placeMembers_follow {cursor : Nat} {members : List (Fin 128)} {c : Fin 8}
    (hclass : ∀ ch ∈ members, (b.channel ch).outputClass = c) : (placeMembers b cursor members).1.IsChain (Follows b) := by
  induction members generalizing cursor with
  | nil => exact .nil
  | cons ch rest ih =>
    obtain ⟨hch, hrest⟩ := List.forall_mem_cons.1 hclass
    refine List.isChain_cons.2 ⟨fun e he => ?_, ih hrest⟩
    have hoffset : e.offset = cursor + memberWidth (b.channel ch) := placeMembers_head? he
    have hsame : slotClass b e = c := by
      have : e.channel ∈ rest := placeMembers_channels b _ rest ▸ List.mem_map_of_mem (List.mem_of_mem_head? he)
      exact hrest _ this
    exact ⟨fun _ => hoffset, fun hne => absurd (hsame.trans hch.symm) hne⟩

/-! ## The classes in their order -/

theorem mem_classMembers {c : Fin 8} {ch : Fin 128} :
    ch ∈ classMembers b i c ↔ ((b.channel ch).kind ≠ .disabled ∧ (b.channel ch).stream = i) ∧ (b.channel ch).outputClass = c := by
  simp [classMembers, isMember]

/-- One class placed before the others. -/
theorem placeClasses_cons (b : Bank) (i : Fin 8) (cursor : Nat) (c : Fin 8) (rest : List (Fin 8)) :
    placeClasses b i cursor (c :: rest) =
      if classMembers b i c = [] then placeClasses b i cursor rest
      else
        let here := placeMembers b (raiseCursor cursor (b.classRecord c).alignment.words) (classMembers b i c)
        (here.1 ++ (placeClasses b i here.2 rest).1, (placeClasses b i here.2 rest).2) := rfl

theorem placeClasses_channels (b : Bank) (i : Fin 8) (cursor : Nat) (classes : List (Fin 8)) :
    (placeClasses b i cursor classes).1.map (·.channel) = classes.flatMap (classMembers b i) := by
  induction classes generalizing cursor with
  | nil => rfl
  | cons c rest ih =>
    rw [placeClasses_cons, List.flatMap_cons]
    split
    · next hnone => rw [hnone, List.nil_append, ih]
    · rw [List.map_append, placeMembers_channels, ih]

theorem placeClasses_slot {cursor : Nat} {classes : List (Fin 8)} {e : SlotEntry} (h : e ∈ (placeClasses b i cursor classes).1) :
    e.width = memberWidth (b.channel e.channel) ∧ e.role = memberRole (b.channel e.channel) := by
  induction classes generalizing cursor with
  | nil => cases h
  | cons c rest ih =>
    rw [placeClasses_cons] at h
    split at h
    · exact ih h
    · exact (List.mem_append.1 h).elim placeMembers_slot ih

theorem placeClasses_end (b : Bank) (i : Fin 8) (cursor : Nat) (classes : List (Fin 8)) :
    (placeClasses b i cursor classes).2 = endFrom cursor (placeClasses b i cursor classes).1 := by
  induction classes generalizing cursor with
  | nil => rfl
  | cons c rest ih =>
    rw [placeClasses_cons]
    split
    · exact ih cursor
    · next hsome =>
      rw [endFrom_append, ih, placeMembers_end]
      have hne : (placeMembers b (raiseCursor cursor (b.classRecord c).alignment.words) (classMembers b i c)).1 ≠ [] :=
        fun hnil => hsome (by rw [← placeMembers_channels b _ (classMembers b i c), hnil, List.map_nil])
      simp only [endFrom, List.getLast?_eq_some_getLast hne, Option.elim_some]

/-- The first slot of a run of classes stands at the cursor raised to the alignment of its class. -/
theorem placeClasses_head? {cursor : Nat} {classes : List (Fin 8)} {e : SlotEntry}
    (h : (placeClasses b i cursor classes).1.head? = some e) :
    slotClass b e ∈ classes ∧ e.offset = raiseCursor cursor (b.classRecord (slotClass b e)).alignment.words := by
  induction classes with
  | nil => cases h
  | cons c rest ih =>
    rw [placeClasses_cons] at h
    split at h
    · obtain ⟨hmem, hoffset⟩ := ih h
      exact ⟨List.mem_cons_of_mem _ hmem, hoffset⟩
    · next hsome =>
      obtain ⟨ch, members, hmembers⟩ := List.exists_cons_of_ne_nil hsome
      have hclass : (b.channel ch).outputClass = c := (mem_classMembers.1 (hmembers ▸ List.mem_cons_self)).2
      rw [hmembers] at h
      cases h
      exact ⟨hclass ▸ List.mem_cons_self, by rw [slotClass, hclass]⟩

/-- The slots of classes that differ, in any order of the classes, follow one another. -/
theorem placeClasses_follow {cursor : Nat} {classes : List (Fin 8)} (hclasses : classes.Nodup) :
    (placeClasses b i cursor classes).1.IsChain (Follows b) := by
  induction classes generalizing cursor with
  | nil => exact .nil
  | cons c rest ih =>
    obtain ⟨hother, hrest⟩ := List.nodup_cons.1 hclasses
    rw [placeClasses_cons]
    split
    · exact ih hrest
    · have hclass : ∀ ch ∈ classMembers b i c, (b.channel ch).outputClass = c := fun ch hch => (mem_classMembers.1 hch).2
      refine List.isChain_append.2 ⟨placeMembers_follow hclass, ih hrest, fun e he later hlater => ?_⟩
      obtain ⟨hmem, hoffset⟩ := placeClasses_head? hlater
      have hlast : slotClass b e = c :=
        hclass _ (placeMembers_channels b _ (classMembers b i c) ▸ List.mem_map_of_mem (List.mem_of_mem_getLast? he))
      rw [placeMembers_end, endFrom_of_getLast? he] at hoffset
      refine ⟨fun hsame => absurd (hlast ▸ hsame ▸ hmem) hother, fun _ => hoffset ▸ raiseCursor_spec _ (alignment_words_pos _)⟩

/-! ## The compiled layout -/

theorem classOrder_nodup (b : Bank) : (classOrder b).Nodup :=
  (classOrder_pairwise b).imp fun h => by rintro rfl; exact h.asymm h

theorem compileStream_channels (b : Bank) (i : Fin 8) :
    (compileStream b i).entries.map (·.channel) = (classOrder b).flatMap (classMembers b i) :=
  placeClasses_channels b i 0 (classOrder b)

/-- The channels of a layout stand in the order of class rank, class number and channel number (R79, R80). -/
theorem compileStream_sorted (b : Bank) (i : Fin 8) :
    ((classOrder b).flatMap (classMembers b i)).Pairwise fun ch later =>
      ClassBefore b (b.channel ch).outputClass (b.channel later).outputClass ∨
        (b.channel ch).outputClass = (b.channel later).outputClass ∧ ch < later := by
  refine List.pairwise_flatMap.2 ⟨fun c _ => ?_, (classOrder_pairwise b).imp fun hbefore ch hch later hlater => .inl ?_⟩
  · refine ((List.pairwise_lt_finRange 128).filter _).imp_of_mem fun hch hlater hlt => .inr ⟨?_, hlt⟩
    exact (mem_classMembers.1 hch).2.trans (mem_classMembers.1 hlater).2.symm
  · rw [(mem_classMembers.1 hch).2, (mem_classMembers.1 hlater).2]
    exact hbefore

theorem memberRole_eq_companion {d : Descriptor} : memberRole d = .companion ↔ d.kind = .companion := by
  unfold memberRole
  split
  · next h => exact iff_of_true rfl h
  · next h => exact iff_of_false (fun he => nomatch he) h

/-- A bank that passes validation holds no layout above 96 words (R83). -/
theorem compileStream_length_le (hvalid : validate b = none) (he : (b.stream i).enabled = true) : (compileStream b i).length ≤ 96 := by
  rw [validate_eq, firstFailing_eq_none_iff] at hvalid
  have hmem : (⟨.layoutFull, i, some i⟩, (b.stream i).enabled = true ∧ 96 < (compileStream b i).length) ∈
      bankChecks b (classOrder b) :=
    List.mem_append_right _ (List.mem_flatMap.2 ⟨i, List.mem_finRange i, List.mem_append_right _ (List.mem_singleton_self _)⟩)
  exact Nat.not_lt.1 fun hlong => hvalid _ hmem ⟨he, hlong⟩

end

/-- Settles O54: the slots of the classes, placed in the order of the classes. -/
theorem layoutIsPlaced : Obligations.LayoutIsPlaced := by
  intro b i l cls rank
  have hchannels : l.entries.map (·.channel) = (classOrder b).flatMap (classMembers b i) := compileStream_channels b i
  have hsorted := compileStream_sorted b i
  rw [← hchannels] at hsorted
  have hend : l.length = endFrom 0 l.entries := placeClasses_end b i 0 (classOrder b)
  have hslot {e : SlotEntry} (he : e ∈ l.entries) := placeClasses_slot he
  refine ⟨fun ch => ?_, ?_, fun e he => ?_, ?_, fun e he => ?_, fun k h => ?_, fun e he => ?_, fun hnil => ?_,
    compileStream_length_le, ?_⟩
  · rw [hchannels]
    simp [mem_classMembers, mem_classOrder]
  · refine hsorted.imp fun h => ?_
    rintro rfl
    exact h.elim (fun hbefore => hbefore.asymm hbefore) fun hsame => lt_irrefl _ hsame.2
  · obtain ⟨hwidth, hrole⟩ := hslot he
    exact ⟨hwidth, hrole ▸ memberRole_eq_companion⟩
  · refine (List.pairwise_map.1 hsorted).imp fun h => ?_
    rcases h with (hrank | ⟨hrank, hcls⟩) | ⟨hcls, hch⟩
    · exact .inl hrank
    · exact .inr ⟨hrank, .inl hcls⟩
    · exact .inr ⟨congrArg (fun c => (b.classRecord c).rank) hcls, .inr ⟨hcls, hch⟩⟩
  · exact (placeClasses_head? he).2.trans (raiseCursor_zero (alignment_words_pos _))
  · exact List.isChain_iff_getElem.1 (placeClasses_follow (classOrder_nodup b)) k h
  · exact hend.trans (endFrom_of_getLast? he 0)
  · rw [hend, hnil]
    rfl
  · exact (Vector.get_ofFn ..)

end Sys2Proof.Machine
end


section
/-! Proofs about the images of the channel descriptor, the stream record and the class record (Table 11-4; R32 to R36, R191, R192):
which value each code names, which fields a word holds, and the two ways between an image and a record. -/

namespace Sys2Proof.Machine

set_option Elab.async false

/-! ## Codes and fields -/

theorem finOf?_eq_some_iff {n v : Nat} {i : Fin n} : finOf? n v = some i ↔ v = i.val := by
  constructor
  · intro h
    unfold finOf? at h
    split at h
    · exact congrArg Fin.val (Option.some.inj h)
    · cases h
  · rintro rfl
    exact finOf?_val i

theorem kindOfCode_eq_some_iff {n : Nat} {k : ChannelKind} : kindOfCode n = some k ↔ n = k.code.toNat := by
  constructor
  · intro h
    unfold kindOfCode at h
    split at h <;> cases h <;> rfl
  · rintro rfl
    cases k <;> rfl

theorem formatOfCode_eq_some_iff {n : Nat} {f : Format} : formatOfCode n = some f ↔ n = f.code.toNat := by
  constructor
  · intro h
    unfold formatOfCode at h
    split at h <;> cases h <;> rfl
  · rintro rfl
    cases f <;> rfl

theorem overflowOfCode_eq_some_iff {n : Nat} {p : OverflowPolicy} : overflowOfCode n = some p ↔ n = p.code.toNat := by
  constructor
  · intro h
    unfold overflowOfCode at h
    split at h <;> cases h <;> rfl
  · rintro rfl
    cases p <;> rfl

theorem underflowOfCode_eq_some_iff {n : Nat} {p : UnderflowPolicy} : underflowOfCode n = some p ↔ n = p.code.toNat := by
  constructor
  · intro h
    unfold underflowOfCode at h
    split at h <;> cases h <;> rfl
  · rintro rfl
    cases p <;> rfl

theorem rangeOfCode_eq_some_iff {n : Nat} {p : RangePolicy} : rangeOfCode n = some p ↔ n = p.code.toNat := by
  constructor
  · intro h
    unfold rangeOfCode at h
    split at h <;> cases h <;> rfl
  · rintro rfl
    cases p <;> rfl

theorem nullOfCode_eq_some_iff {n : Nat} {p : NullPolicy} : nullOfCode n = some p ↔ n = p.code.toNat := by
  constructor
  · intro h
    unfold nullOfCode at h
    split at h <;> cases h <;> rfl
  · rintro rfl
    cases p <;> rfl

theorem alignmentOfWords_eq_some_iff {n : Nat} {a : Machine.Alignment} : alignmentOfWords n = some a ↔ n = a.words := by
  constructor
  · intro h
    unfold alignmentOfWords at h
    split at h <;> cases h <;> rfl
  · rintro rfl
    cases a <;> rfl

theorem enabledOfCode_eq_some_iff {n : Nat} {b : Bool} : enabledOfCode n = some b ↔ n = if b then 1 else 0 := by
  constructor
  · intro h
    unfold enabledOfCode at h
    split at h <;> cases h <;> rfl
  · rintro rfl
    cases b <;> rfl

theorem modeOfBit_eq_iff {b : Bool} {m : ChannelMode} : modeOfBit b = m ↔ (b = true ↔ m = .split) := by
  cases b <;> cases m <;> decide

theorem roundingOfBit_eq_iff {b : Bool} {r : Rounding} : roundingOfBit b = r ↔ (b = true ↔ r = .chop) := by
  cases b <;> cases r <;> decide

theorem reportOfBit_eq_iff {b : Bool} {r : ReportMode} : reportOfBit b = r ↔ (b = true ↔ r = .every) := by
  cases b <;> cases r <;> decide

theorem nullCodeField?_eq_some_iff {present : Bool} {f : Format} {w : Word} {o : Option Word} :
    nullCodeField? present f w = some o ↔
      present = o.isSome ∧ (∀ c, o = some c → w = c) ∧ ∀ c, o = some c → nullCodeFits f c = true := by
  unfold nullCodeField?
  cases present <;> cases o <;> simp
  constructor
  · rintro ⟨hfits, rfl⟩
    exact ⟨rfl, hfits⟩
  · rintro ⟨rfl, hfits⟩
    exact ⟨hfits, rfl⟩

theorem companionField?_eq_some_iff {mode : ChannelMode} {present : Bool} {v : Nat} {o : Option (Fin 128)} :
    companionField? mode present v = some o ↔
      present = o.isSome ∧ (∀ k, o = some k → v = k.val) ∧ (o.isSome = true ↔ mode = .split) := by
  cases mode <;> cases present <;> cases o <;> simp [companionField?, finOf?_eq_some_iff]

/-! ## The checks of a descriptor (R32 to R35) -/

/-- A descriptor that meets the checks of R32 to R35. -/
structure DescriptorFits (d : Descriptor) : Prop where
  gain : lrIsMarkedNull d.gain = false
  offset : lrIsMarkedNull d.offset = false
  position : ¬ (d.inputFormat = .lr ∧ d.position = 63)
  companionOutput : ¬ (d.kind = .companion ∧ (d.outputFormat = .sr ∨ d.outputFormat = .lr))
  companion : d.companion.isSome = true ↔ d.mode = .split
  inputNull : ∀ c, d.inputNull = some c → nullCodeFits d.inputFormat c = true
  outputNull : ∀ c, d.outputNull = some c → nullCodeFits d.outputFormat c = true

theorem lrIsMarkedNull_eq_false_iff {c : DoubleWord} : lrIsMarkedNull c = false ↔ ¬ (c.extractLsb' 51 12 = 0 ∧ c.getLsbD 63 = true) := by
  simp [lrIsMarkedNull]

theorem descriptorSound_iff {d : Descriptor} :
    descriptorSound d = true ↔ lrIsMarkedNull d.gain = false ∧ lrIsMarkedNull d.offset = false ∧
      ¬ (d.inputFormat = .lr ∧ d.position = 63) ∧
      ¬ (d.kind = .companion ∧ (d.outputFormat = .sr ∨ d.outputFormat = .lr)) := by
  simp only [descriptorSound, Bool.and_eq_true, Bool.not_eq_true', Bool.and_eq_false_iff, Bool.or_eq_false_iff, and_assoc]
  simp only [beq_eq_false_iff_ne, ne_eq, not_and_or, not_or]

theorem nullCodeFits_i16 {c : Word} : nullCodeFits .i16 c = true ↔ -32768 ≤ c.toInt ∧ c.toInt ≤ 32767 := decide_eq_true_iff
theorem nullCodeFits_ob16 {c : Word} : nullCodeFits .ob16 c = true ↔ 0 ≤ c.toInt ∧ c.toInt ≤ 65535 := decide_eq_true_iff

/-! ## Reading a descriptor -/

/-- The first word of an image holds the fields of a descriptor. -/
structure DescriptorWord0 (w : Word) (d : Descriptor) : Prop where
  kind : (w.extractLsb' 30 2).toNat = d.kind.code.toNat
  mode : w.getLsbD 29 = true ↔ d.mode = .split
  rounding : w.getLsbD 28 = true ↔ d.rounding = .chop
  stream : (w.extractLsb' 24 4).toNat = d.stream.val
  outputClass : (w.extractLsb' 20 4).toNat = d.outputClass.val
  inputFormat : (w.extractLsb' 17 3).toNat = d.inputFormat.code.toNat
  outputFormat : (w.extractLsb' 14 3).toNat = d.outputFormat.code.toNat
  position : (w.extractLsb' 7 7).toNat = d.position.val
  report : w.getLsbD 6 = true ↔ d.report = .every
  inputNull : w.getLsbD 5 = d.inputNull.isSome
  outputNull : w.getLsbD 4 = d.outputNull.isSome
  companion : w.getLsbD 3 = d.companion.isSome

/-- The second word. -/
structure DescriptorWord1 (w : Word) (d : Descriptor) : Prop where
  overflow : (w.extractLsb' 28 4).toNat = d.overflow.code.toNat
  underflow : (w.extractLsb' 24 4).toNat = d.underflow.code.toNat
  range : (w.extractLsb' 20 4).toNat = d.range.code.toNat
  null : (w.extractLsb' 16 4).toNat = d.null.code.toNat
  companion : ∀ k, d.companion = some k → (w.extractLsb' 8 8).toNat = k.val

theorem decodeDescriptor_eq_some_iff {w0 w1 w2 w3 w4 w5 w6 w7 : Word} {d : Descriptor} :
    decodeDescriptor [w0, w1, w2, w3, w4, w5, w6, w7] = some d ↔
      DescriptorWord0 w0 d ∧ DescriptorWord1 w1 d ∧ (∀ c, d.inputNull = some c → w2 = c) ∧ (∀ c, d.outputNull = some c → w3 = c) ∧
        d.gain = w4 ++ w5 ∧ d.offset = w6 ++ w7 ∧ DescriptorFits d := by
  constructor
  · intro h
    obtain ⟨kind, hkind, h⟩ := Option.bind_eq_some_iff.1 h
    obtain ⟨stream, hstream, h⟩ := Option.bind_eq_some_iff.1 h
    obtain ⟨cls, hcls, h⟩ := Option.bind_eq_some_iff.1 h
    obtain ⟨fin, hfin, h⟩ := Option.bind_eq_some_iff.1 h
    obtain ⟨fout, hfout, h⟩ := Option.bind_eq_some_iff.1 h
    obtain ⟨position, hposition, h⟩ := Option.bind_eq_some_iff.1 h
    obtain ⟨inNull, hinNull, h⟩ := Option.bind_eq_some_iff.1 h
    obtain ⟨outNull, houtNull, h⟩ := Option.bind_eq_some_iff.1 h
    obtain ⟨k, hk, h⟩ := Option.bind_eq_some_iff.1 h
    obtain ⟨overflow, hoverflow, h⟩ := Option.bind_eq_some_iff.1 h
    obtain ⟨underflow, hunderflow, h⟩ := Option.bind_eq_some_iff.1 h
    obtain ⟨range, hrange, h⟩ := Option.bind_eq_some_iff.1 h
    obtain ⟨null, hnull, h⟩ := Option.bind_eq_some_iff.1 h
    obtain ⟨hsound, hd⟩ := Option.ite_none_right_eq_some.1 h
    cases hd
    obtain ⟨hinFlag, hinWord, hinFits⟩ := nullCodeField?_eq_some_iff.1 hinNull
    obtain ⟨houtFlag, houtWord, houtFits⟩ := nullCodeField?_eq_some_iff.1 houtNull
    obtain ⟨hkFlag, hkWord, hkMode⟩ := companionField?_eq_some_iff.1 hk
    obtain ⟨hgain, hoffset, hpos, hcomp⟩ := descriptorSound_iff.1 hsound
    exact ⟨⟨kindOfCode_eq_some_iff.1 hkind, modeOfBit_eq_iff.1 rfl, roundingOfBit_eq_iff.1 rfl, finOf?_eq_some_iff.1 hstream,
      finOf?_eq_some_iff.1 hcls, formatOfCode_eq_some_iff.1 hfin, formatOfCode_eq_some_iff.1 hfout, finOf?_eq_some_iff.1 hposition,
      reportOfBit_eq_iff.1 rfl, hinFlag, houtFlag, hkFlag⟩,
      ⟨overflowOfCode_eq_some_iff.1 hoverflow, underflowOfCode_eq_some_iff.1 hunderflow, rangeOfCode_eq_some_iff.1 hrange,
        nullOfCode_eq_some_iff.1 hnull, hkWord⟩, hinWord, houtWord, rfl, rfl, ⟨hgain, hoffset, hpos, hcomp, hkMode, hinFits, houtFits⟩⟩
  · rintro ⟨h0, h1, hinWord, houtWord, hgain, hoffset, hfits⟩
    have hmode := modeOfBit_eq_iff.2 h0.mode
    refine Option.bind_eq_some_iff.2 ⟨d.kind, kindOfCode_eq_some_iff.2 h0.kind, ?_⟩
    refine Option.bind_eq_some_iff.2 ⟨d.stream, finOf?_eq_some_iff.2 h0.stream, ?_⟩
    refine Option.bind_eq_some_iff.2 ⟨d.outputClass, finOf?_eq_some_iff.2 h0.outputClass, ?_⟩
    refine Option.bind_eq_some_iff.2 ⟨d.inputFormat, formatOfCode_eq_some_iff.2 h0.inputFormat, ?_⟩
    refine Option.bind_eq_some_iff.2 ⟨d.outputFormat, formatOfCode_eq_some_iff.2 h0.outputFormat, ?_⟩
    refine Option.bind_eq_some_iff.2 ⟨d.position, finOf?_eq_some_iff.2 h0.position, ?_⟩
    refine Option.bind_eq_some_iff.2 ⟨d.inputNull, nullCodeField?_eq_some_iff.2 ⟨h0.inputNull, hinWord, hfits.inputNull⟩, ?_⟩
    refine Option.bind_eq_some_iff.2 ⟨d.outputNull, nullCodeField?_eq_some_iff.2 ⟨h0.outputNull, houtWord, hfits.outputNull⟩, ?_⟩
    refine Option.bind_eq_some_iff.2 ⟨d.companion, companionField?_eq_some_iff.2
      ⟨h0.companion, h1.companion, hmode.symm ▸ hfits.companion⟩, ?_⟩
    refine Option.bind_eq_some_iff.2 ⟨d.overflow, overflowOfCode_eq_some_iff.2 h1.overflow, ?_⟩
    refine Option.bind_eq_some_iff.2 ⟨d.underflow, underflowOfCode_eq_some_iff.2 h1.underflow, ?_⟩
    refine Option.bind_eq_some_iff.2 ⟨d.range, rangeOfCode_eq_some_iff.2 h1.range, ?_⟩
    refine Option.bind_eq_some_iff.2 ⟨d.null, nullOfCode_eq_some_iff.2 h1.null, ?_⟩
    rw [hmode, roundingOfBit_eq_iff.2 h0.rounding, reportOfBit_eq_iff.2 h0.report, doubleWord, doubleWord, ← hgain, ← hoffset]
    exact if_pos (descriptorSound_iff.2 ⟨hfits.gain, hfits.offset, hfits.position, hfits.companionOutput⟩)

/-! ## Writing a descriptor -/

theorem toNat_bitsOf {n v : Nat} (h : v < 2 ^ n) : (bitsOf n v).toNat = v := (BitVec.toNat_ofNat ..).trans (Nat.mod_eq_of_lt h)

/-- A flag stands where its field of one bit stands. -/
theorem getLsbD_of_field {w : Word} {i : Nat} {field : BitVec 1} (h : w.extractLsb' i 1 = field) : w.getLsbD i = field.getLsbD 0 := by
  rw [← h, BitVec.getLsbD_extractLsb']
  simp

def descriptorWord0 (d : Descriptor) : Word :=
  d.kind.code ++ d.mode.bit ++ d.rounding.bit ++ bitsOf 4 d.stream ++ bitsOf 4 d.outputClass ++ d.inputFormat.code ++
    d.outputFormat.code ++ bitsOf 7 d.position ++ d.report.bit ++ flagBit d.inputNull.isSome ++ flagBit d.outputNull.isSome ++
    flagBit d.companion.isSome ++ 0#3

def companionBits (d : Descriptor) : BitVec 8 := match d.companion with | some k => bitsOf 8 k | none => 0#8

theorem companionBits_of_none {d : Descriptor} (h : d.companion = none) : companionBits d = 0 := by
  unfold companionBits
  split
  · next hk => exact nomatch h.symm.trans hk
  · rfl

theorem toNat_companionBits {d : Descriptor} {k : Fin 128} (h : d.companion = some k) : (companionBits d).toNat = k.val := by
  unfold companionBits
  split
  · next hk =>
    cases h.symm.trans hk
    exact (BitVec.toNat_ofNat ..).trans (Nat.mod_eq_of_lt (by omega))
  · next hk => exact nomatch h.symm.trans hk

def descriptorWord1 (d : Descriptor) : Word :=
  d.overflow.code ++ d.underflow.code ++ d.range.code ++ d.null.code ++ companionBits d ++ 0#8

theorem encodeDescriptor_eq (d : Descriptor) :
    encodeDescriptor d = [descriptorWord0 d, descriptorWord1 d, d.inputNull.getD 0, d.outputNull.getD 0, d.gain.extractLsb' 32 32,
      d.gain.extractLsb' 0 32, d.offset.extractLsb' 32 32, d.offset.extractLsb' 0 32] := rfl

section
variable (d : Descriptor)

/-- The fields of the first word, each at its bits. -/
theorem descriptorWord0_fields :
    (descriptorWord0 d).extractLsb' 30 2 = d.kind.code ∧ (descriptorWord0 d).extractLsb' 29 1 = d.mode.bit ∧
    (descriptorWord0 d).extractLsb' 28 1 = d.rounding.bit ∧ (descriptorWord0 d).extractLsb' 24 4 = bitsOf 4 d.stream ∧
    (descriptorWord0 d).extractLsb' 20 4 = bitsOf 4 d.outputClass ∧ (descriptorWord0 d).extractLsb' 17 3 = d.inputFormat.code ∧
    (descriptorWord0 d).extractLsb' 14 3 = d.outputFormat.code ∧ (descriptorWord0 d).extractLsb' 7 7 = bitsOf 7 d.position ∧
    (descriptorWord0 d).extractLsb' 6 1 = d.report.bit ∧ (descriptorWord0 d).extractLsb' 5 1 = flagBit d.inputNull.isSome ∧
    (descriptorWord0 d).extractLsb' 4 1 = flagBit d.outputNull.isSome ∧
    (descriptorWord0 d).extractLsb' 3 1 = flagBit d.companion.isSome ∧ (descriptorWord0 d).extractLsb' 0 3 = 0 := by
  refine ⟨?_, ?_, ?_, ?_, ?_, ?_, ?_, ?_, ?_, ?_, ?_, ?_, ?_⟩
  all_goals
    unfold descriptorWord0
    repeat rw [BitVec.extractLsb'_append_eq_of_le (by decide)]
    repeat rw [BitVec.extractLsb'_append_eq_of_add_le (by decide)]
    exact BitVec.extractLsb'_eq_self

theorem descriptorWord1_fields :
    (descriptorWord1 d).extractLsb' 28 4 = d.overflow.code ∧ (descriptorWord1 d).extractLsb' 24 4 = d.underflow.code ∧
    (descriptorWord1 d).extractLsb' 20 4 = d.range.code ∧ (descriptorWord1 d).extractLsb' 16 4 = d.null.code ∧
    (descriptorWord1 d).extractLsb' 8 8 = companionBits d ∧ (descriptorWord1 d).extractLsb' 0 8 = 0 := by
  refine ⟨?_, ?_, ?_, ?_, ?_, ?_⟩
  all_goals
    unfold descriptorWord1
    repeat rw [BitVec.extractLsb'_append_eq_of_le (by decide)]
    repeat rw [BitVec.extractLsb'_append_eq_of_add_le (by decide)]
    exact BitVec.extractLsb'_eq_self

theorem ChannelMode.bit_eq_one_iff (m : ChannelMode) : m.bit.getLsbD 0 = true ↔ m = .split := by cases m <;> decide
theorem Rounding.bit_eq_one_iff (r : Rounding) : r.bit.getLsbD 0 = true ↔ r = .chop := by cases r <;> decide
theorem ReportMode.bit_eq_one_iff (r : ReportMode) : r.bit.getLsbD 0 = true ↔ r = .every := by cases r <;> decide
theorem getLsbD_flagBit (b : Bool) : (flagBit b).getLsbD 0 = b := by cases b <;> rfl

theorem descriptorWord0_holds : DescriptorWord0 (descriptorWord0 d) d := by
  obtain ⟨hkind, hmode, hrounding, hstream, hcls, hin, hout, hposition, hreport, hinNull, houtNull, hcompanion, _⟩ :=
    descriptorWord0_fields d
  exact {
    kind := congrArg _ hkind
    mode := getLsbD_of_field hmode ▸ d.mode.bit_eq_one_iff
    rounding := getLsbD_of_field hrounding ▸ d.rounding.bit_eq_one_iff
    stream := (congrArg _ hstream).trans (toNat_bitsOf (by omega))
    outputClass := (congrArg _ hcls).trans (toNat_bitsOf (by omega))
    inputFormat := congrArg _ hin
    outputFormat := congrArg _ hout
    position := (congrArg _ hposition).trans (toNat_bitsOf (by omega))
    report := getLsbD_of_field hreport ▸ d.report.bit_eq_one_iff
    inputNull := (getLsbD_of_field hinNull).trans (getLsbD_flagBit _)
    outputNull := (getLsbD_of_field houtNull).trans (getLsbD_flagBit _)
    companion := (getLsbD_of_field hcompanion).trans (getLsbD_flagBit _) }

theorem descriptorWord1_holds : DescriptorWord1 (descriptorWord1 d) d := by
  obtain ⟨hoverflow, hunderflow, hrange, hnull, hcompanion, _⟩ := descriptorWord1_fields d
  exact ⟨congrArg _ hoverflow, congrArg _ hunderflow, congrArg _ hrange, congrArg _ hnull, fun k hk =>
    (congrArg _ hcompanion).trans (toNat_companionBits hk)⟩

theorem highWord_append_lowWord (c : DoubleWord) : c = c.extractLsb' 32 32 ++ c.extractLsb' 0 32 := by
  ext i hi
  simp
  grind

/-- The image of a descriptor that meets the checks names it again (R36). -/
theorem decode_encodeDescriptor (h : DescriptorFits d) : decodeDescriptor (encodeDescriptor d) = some d := by
  rw [encodeDescriptor_eq, decodeDescriptor_eq_some_iff]
  refine ⟨descriptorWord0_holds d, descriptorWord1_holds d, fun c hc => ?_, fun c hc => ?_, highWord_append_lowWord _,
    highWord_append_lowWord _, h⟩
  · rw [hc, Option.getD_some]
  · rw [hc, Option.getD_some]

end

/-! ## The images of one word -/

theorem decodeStream_eq_some_iff {w : Word} {r : StreamRecord} :
    decodeStream [w] = some r ↔
      (w.extractLsb' 30 2).toNat = (if r.enabled then 1 else 0) ∧ w.extractLsb' 16 8 = r.inputId ∧
      w.extractLsb' 8 8 = r.outputId ∧ (w.extractLsb' 0 8).toNat = r.declared ∧ 1 ≤ r.declared ∧ r.declared ≤ 64 := by
  simp only [decodeStream, Option.bind_eq_bind, Option.bind_eq_some_iff, enabledOfCode_eq_some_iff, Option.ite_none_right_eq_some,
    Option.some.injEq]
  constructor
  · rintro ⟨enabled, henabled, ⟨hleast, hmost⟩, rfl⟩
    exact ⟨henabled, rfl, rfl, rfl, hleast, hmost⟩
  · rintro ⟨henabled, hin, hout, hdeclared, hleast, hmost⟩
    exact ⟨r.enabled, henabled, by rw [bits, hdeclared]; exact ⟨hleast, hmost⟩, by rw [hin, hout, bits, hdeclared]⟩

def streamWord (r : StreamRecord) : Word := 0#1 ++ flagBit r.enabled ++ 0#6 ++ r.inputId ++ r.outputId ++ bitsOf 8 r.declared

theorem streamWord_fields (r : StreamRecord) :
    (streamWord r).extractLsb' 30 2 = 0#1 ++ flagBit r.enabled ∧ (streamWord r).extractLsb' 24 6 = 0 ∧
    (streamWord r).extractLsb' 16 8 = r.inputId ∧ (streamWord r).extractLsb' 8 8 = r.outputId ∧
    (streamWord r).extractLsb' 0 8 = bitsOf 8 r.declared := by
  refine ⟨?_, ?_, ?_, ?_, ?_⟩
  all_goals
    unfold streamWord
    repeat rw [BitVec.extractLsb'_append_eq_of_le (by decide)]
  · exact BitVec.extractLsb'_eq_self
  all_goals
    repeat rw [BitVec.extractLsb'_append_eq_of_add_le (by decide)]
    exact BitVec.extractLsb'_eq_self

theorem decode_encodeStream {r : StreamRecord} (hleast : 1 ≤ r.declared) (hmost : r.declared ≤ 64) :
    decodeStream (encodeStream r) = some r := by
  obtain ⟨henabled, _, hin, hout, hdeclared⟩ := streamWord_fields r
  refine decodeStream_eq_some_iff.2 ⟨(congrArg _ henabled).trans ?_, hin, hout, (congrArg _ hdeclared).trans (toNat_bitsOf (by omega)),
    hleast, hmost⟩
  cases r.enabled <;> rfl

theorem decodeClass_eq_some_iff {w : Word} {r : ClassRecord} :
    decodeClass [w] = some r ↔
      (w.extractLsb' 24 8).toNat = r.alignment.words ∧ (w.extractLsb' 8 8).toNat = r.memberLimit ∧
      (w.extractLsb' 0 8).toNat = r.rank.val ∧ r.memberLimit ≤ 96 := by
  simp only [decodeClass, Option.bind_eq_bind, Option.bind_eq_some_iff, alignmentOfWords_eq_some_iff, finOf?_eq_some_iff,
    Option.ite_none_right_eq_some, Option.some.injEq]
  constructor
  · rintro ⟨alignment, halignment, rank, hrank, hlimit, rfl⟩
    exact ⟨halignment, rfl, hrank, hlimit⟩
  · rintro ⟨halignment, hmembers, hrank, hlimit⟩
    exact ⟨r.alignment, halignment, r.rank, hrank, by rw [bits, hmembers]; exact hlimit, by rw [bits, hmembers]⟩

def classWord (r : ClassRecord) : Word := bitsOf 8 r.alignment.words ++ 0#8 ++ bitsOf 8 r.memberLimit ++ bitsOf 8 r.rank

theorem classWord_fields (r : ClassRecord) :
    (classWord r).extractLsb' 24 8 = bitsOf 8 r.alignment.words ∧ (classWord r).extractLsb' 16 8 = 0 ∧
    (classWord r).extractLsb' 8 8 = bitsOf 8 r.memberLimit ∧ (classWord r).extractLsb' 0 8 = bitsOf 8 r.rank := by
  refine ⟨?_, ?_, ?_, ?_⟩
  all_goals
    unfold classWord
    repeat rw [BitVec.extractLsb'_append_eq_of_le (by decide)]
    repeat rw [BitVec.extractLsb'_append_eq_of_add_le (by decide)]
    exact BitVec.extractLsb'_eq_self

theorem decode_encodeClass {r : ClassRecord} (hlimit : r.memberLimit ≤ 96) : decodeClass (encodeClass r) = some r := by
  obtain ⟨halignment, _, hmembers, hrank⟩ := classWord_fields r
  refine decodeClass_eq_some_iff.2 ⟨(congrArg _ halignment).trans (toNat_bitsOf ?_), (congrArg _ hmembers).trans (toNat_bitsOf (by omega)),
    (congrArg _ hrank).trans (toNat_bitsOf (by omega)), hlimit⟩
  cases r.alignment <;> decide

/-! ## An image of another length -/

theorem decodeDescriptor_length {image : List Word} (h : image.length ≠ 8) : decodeDescriptor image = none := by
  unfold decodeDescriptor
  split
  · exact absurd rfl h
  · rfl

theorem decodeStream_length {image : List Word} (h : image.length ≠ 1) : decodeStream image = none := by
  unfold decodeStream
  split
  · exact absurd rfl h
  · rfl

theorem decodeClass_length {image : List Word} (h : image.length ≠ 1) : decodeClass image = none := by
  unfold decodeClass
  split
  · exact absurd rfl h
  · rfl

/-- Settles O52: what each image names, and that a written image names its record again. -/
theorem recordImagesRoundTrip : Obligations.RecordImagesRoundTrip := by
  unfold Obligations.RecordImagesRoundTrip
  intro isNull codeFits fits kindCode formatCode overflowCode underflowCode rangeCode nullCode alignmentWords
  have hkind (k : ChannelKind) : k.code.toNat = kindCode k := by cases k <;> rfl
  have hformat (f : Format) : f.code.toNat = formatCode f := by cases f <;> rfl
  have hoverflow (p : OverflowPolicy) : p.code.toNat = overflowCode p := by cases p <;> rfl
  have hunderflow (p : UnderflowPolicy) : p.code.toNat = underflowCode p := by cases p <;> rfl
  have hrange (p : RangePolicy) : p.code.toNat = rangeCode p := by cases p <;> rfl
  have hnull (p : NullPolicy) : p.code.toNat = nullCode p := by cases p <;> rfl
  have halignment (a : Machine.Alignment) : a.words = alignmentWords a := by cases a <;> rfl
  have hcode (f : Format) (c : Word) : nullCodeFits f c = true ↔ codeFits f c := by
    cases f with
    | i16 => exact nullCodeFits_i16
    | ob16 => exact nullCodeFits_ob16
    | i32 => exact iff_of_true rfl trivial
    | sr => exact iff_of_false nofun id
    | lr => exact iff_of_false nofun id
  have hfits (d : Descriptor) : DescriptorFits d ↔ fits d := by
    constructor
    · rintro ⟨hgain, hoffset, hpos, hout, hcomp, hin, hnull⟩
      exact ⟨lrIsMarkedNull_eq_false_iff.1 hgain, lrIsMarkedNull_eq_false_iff.1 hoffset, hpos, hout, hcomp,
        fun c hc => (hcode _ c).1 (hin c hc), fun c hc => (hcode _ c).1 (hnull c hc)⟩
    · rintro ⟨hgain, hoffset, hpos, hout, hcomp, hin, hnull⟩
      exact ⟨lrIsMarkedNull_eq_false_iff.2 hgain, lrIsMarkedNull_eq_false_iff.2 hoffset, hpos, hout, hcomp,
        fun c hc => (hcode _ c).2 (hin c hc), fun c hc => (hcode _ c).2 (hnull c hc)⟩
  refine ⟨fun w0 w1 w2 w3 w4 w5 w6 w7 d => ?_, fun image => decodeDescriptor_length,
    fun d h => decode_encodeDescriptor d ((hfits d).2 h), fun d => ?_, fun w r => decodeStream_eq_some_iff,
    fun image h => ⟨decodeStream_length h, decodeClass_length h⟩, fun r => decode_encodeStream,
    fun r => ⟨streamWord r, rfl, (streamWord_fields r).2.1⟩, fun w r => halignment r.alignment ▸ decodeClass_eq_some_iff,
    fun r => decode_encodeClass, fun r => ⟨classWord r, rfl, (classWord_fields r).2.1⟩⟩
  · rw [decodeDescriptor_eq_some_iff, ← hkind, ← hformat, ← hformat, ← hoverflow, ← hunderflow, ← hrange, ← hnull, ← hfits]
    constructor
    · rintro ⟨h0, h1, hrest⟩
      exact ⟨h0.kind, h0.mode, h0.rounding, h0.stream, h0.outputClass, h0.inputFormat, h0.outputFormat, h0.position, h0.report,
        h0.inputNull, h0.outputNull, h0.companion, h1.overflow, h1.underflow, h1.range, h1.null, h1.companion, hrest⟩
    · rintro ⟨kind, mode, rounding, stream, cls, fin, fout, position, report, inNull, outNull, companion, overflow, underflow, range,
        null, number, hrest⟩
      exact ⟨⟨kind, mode, rounding, stream, cls, fin, fout, position, report, inNull, outNull, companion⟩,
        ⟨overflow, underflow, range, null, number⟩, hrest⟩
  · obtain ⟨_, _, _, _, hcompanion, hzero⟩ := descriptorWord1_fields d
    refine ⟨_, _, _, _, _, _, _, _, encodeDescriptor_eq d, ?_, hzero, fun h => ?_, fun h => ?_, fun h => ?_⟩
    · obtain ⟨_, _, _, _, _, _, _, _, _, _, _, _, hlast⟩ := descriptorWord0_fields d
      exact hlast
    · exact hcompanion.trans (companionBits_of_none h)
    · rw [h, Option.getD_none]
    · rw [h, Option.getD_none]

end Sys2Proof.Machine
end


section
/-! Proofs about the frames and records that the part produces (Tables 11-1 to 11-3, 11-6, 11-7; R148, R188, R189, R194). -/

namespace Sys2Proof.Machine

set_option Elab.async false

/-! ## Frames that pass the checks -/

theorem kindOfWord_of_code {w : Word} {k : FrameKind} (h : w.extractLsb' 28 4 = k.code) : kindOfWord w = some k := by
  rw [kindOfWord, bits, h]
  cases k <;> rfl

/-- A header that names a kind and the number of words that follow it is that of a frame of the kind. -/
theorem isFrame_of_header {k : FrameKind} {w : Word} {rest : List Word} {n : Nat} (hkind : w.extractLsb' 28 4 = k.code)
    (hcount : (w.extractLsb' 0 8).toNat = n) (hlength : (w :: rest).length = k.headerWords + n) (hmax : n ≤ k.maxPayload)
    (hfixed : k.fixedLength = true → n = k.maxPayload) (hsample : k = .data → w.getLsbD 27 = true) : IsFrame k (w :: rest) where
  kind := ⟨w, rest, rfl, kindOfWord_of_code hkind, by rw [hlength, payloadCount, bits, hcount]⟩
  maximum := by omega
  fixed h := by rw [hlength, hfixed h]
  sample hk hclear := absurd ((hsample hk).symm.trans hclear) (by decide)

section
variable (k : FrameKind) (a : Address)

theorem shortHeader_kind (n : Nat) : (shortHeader k a n).extractLsb' 28 4 = k.code := by
  unfold shortHeader
  repeat rw [BitVec.extractLsb'_append_eq_of_le (by decide)]
  exact BitVec.extractLsb'_eq_self

theorem shortHeader_count {n : Nat} (hn : n < 256) : ((shortHeader k a n).extractLsb' 0 8).toNat = n := by
  rw [shortHeader, BitVec.extractLsb'_append_eq_of_add_le (by decide), BitVec.extractLsb'_eq_self]
  exact toNat_bitsOf hn

/-- A frame of a fixed length with one header word. -/
theorem isFrame_short {rest : List Word} (hshort : k.headerWords = 1) (hfixed : k ≠ .data) (hlength : rest.length = k.maxPayload) :
    IsFrame k (shortHeader k a rest.length :: rest) := by
  have hmax : k.maxPayload < 256 := by cases k <;> decide
  exact isFrame_of_header (shortHeader_kind k a _) (shortHeader_count k a (by omega)) (by rw [List.length_cons, hshort, Nat.add_comm])
    (by omega) (fun _ => hlength) fun h => absurd h hfixed

end

/-! ## A conditioned DATA frame (Table 11-2) -/

def conditionedWord (c : CondFrame) : Word :=
  FrameKind.data.code ++ 1#1 ++ flagBit c.exception ++ flagBit c.gap ++ flagBit c.released ++ flagBit c.timedOut ++
    flagBit c.refused ++ c.node ++ c.outputId ++ bitsOf 8 c.payload.length

theorem CondFrame.words_eq (c : CondFrame) :
    c.words = [conditionedWord c, c.inputSeq ++ c.outputSeq, c.timestamp, c.generation ++ 0#16] ++ c.payload := rfl

theorem conditionedWord_fields (c : CondFrame) :
    (conditionedWord c).extractLsb' 28 4 = 1 ∧ (conditionedWord c).extractLsb' 27 1 = 1#1 ∧
    (conditionedWord c).extractLsb' 26 1 = flagBit c.exception ∧ (conditionedWord c).extractLsb' 25 1 = flagBit c.gap ∧
    (conditionedWord c).extractLsb' 24 1 = flagBit c.released ∧ (conditionedWord c).extractLsb' 23 1 = flagBit c.timedOut ∧
    (conditionedWord c).extractLsb' 22 1 = flagBit c.refused ∧ (conditionedWord c).extractLsb' 16 6 = c.node ∧
    (conditionedWord c).extractLsb' 8 8 = c.outputId ∧ (conditionedWord c).extractLsb' 0 8 = bitsOf 8 c.payload.length := by
  refine ⟨?_, ?_, ?_, ?_, ?_, ?_, ?_, ?_, ?_, ?_⟩
  all_goals
    unfold conditionedWord
    repeat rw [BitVec.extractLsb'_append_eq_of_le (by decide)]
    repeat rw [BitVec.extractLsb'_append_eq_of_add_le (by decide)]
    exact BitVec.extractLsb'_eq_self

theorem getLsbD_of_flagField {w : Word} {i : Nat} {b : Bool} (h : w.extractLsb' i 1 = flagBit b) : w.getLsbD i = b :=
  (getLsbD_of_field h).trans (getLsbD_flagBit b)

theorem isFrame_conditioned {c : CondFrame} (h : c.payload.length ≤ 64) : IsFrame .data c.words := by
  obtain ⟨hkind, hflag, _, _, _, _, _, _, _, hcount⟩ := conditionedWord_fields c
  exact isFrame_of_header (n := c.payload.length) hkind ((congrArg _ hcount).trans (toNat_bitsOf (by omega)))
    (Nat.add_comm c.payload.length 4) h nofun fun _ => getLsbD_of_flagField (b := true) hflag

/-! ## A RESPONSE (Table 11-3) -/

def responseWord (r : Response) : Word := FrameKind.response.code ++ r.source ++ 0#6 ++ r.tag ++ bitsOf 8 r.data.length

theorem Response.words_eq (r : Response) : r.words = [responseWord r, 0#16 ++ r.code ++ r.status.code] ++ r.data := rfl

theorem responseWord_fields (r : Response) :
    (responseWord r).extractLsb' 28 4 = 3 ∧ (responseWord r).extractLsb' 22 6 = r.source ∧ (responseWord r).extractLsb' 16 6 = 0 ∧
    (responseWord r).extractLsb' 8 8 = r.tag ∧ (responseWord r).extractLsb' 0 8 = bitsOf 8 r.data.length := by
  refine ⟨?_, ?_, ?_, ?_, ?_⟩
  all_goals
    unfold responseWord
    repeat rw [BitVec.extractLsb'_append_eq_of_le (by decide)]
    repeat rw [BitVec.extractLsb'_append_eq_of_add_le (by decide)]
    exact BitVec.extractLsb'_eq_self

theorem isFrame_response {r : Response} (h : r.data.length ≤ 96) : IsFrame .response r.words := by
  obtain ⟨hkind, _, _, _, hcount⟩ := responseWord_fields r
  exact isFrame_of_header (n := r.data.length) hkind ((congrArg _ hcount).trans (toNat_bitsOf (by omega)))
    (Nat.add_comm r.data.length 2) h nofun nofun

/-! ## A NOTICE (R188) -/

/-- The lower half of a word, with zero above it. -/
theorem zero_append_extractLsb' (w : Word) : (0#16 ++ w.extractLsb' 0 16 : Word) = w &&& 0xFFFF#32 := by
  apply BitVec.eq_of_toNat_eq
  rw [BitVec.toNat_append, BitVec.toNat_and, BitVec.extractLsb'_toNat]
  exact (Nat.zero_or _).trans (Nat.and_two_pow_sub_one_eq_mod w.toNat 16).symm

/-- The word of the oldest and the newest sequence number. -/
def noticeSequences (x : ExceptionUnit) : Word :=
  match x.queue.head?, x.queue.getLast? with
  | some oldest, some newest => oldest.seq ++ newest.seq
  | _, _ => 0#32

theorem flagBit_not_isEmpty (queue : List ExceptionRecord) : flagBit (!queue.isEmpty) = BitVec.ofBool (decide (queue ≠ [])) := by
  cases queue <;> rfl

theorem noticeWords_eq (reason : NoticeReason) (a : Address) (x : ExceptionUnit) (hold : Hold) :
    noticeWords reason a x hold =
      [4#4 ++ a ++ 0#14 ++ 3#8,
       reason.code ++ hold.code ++ BitVec.ofBool (decide (x.queue ≠ [])) ++ 0#7 ++ BitVec.ofNat 8 x.queue.length, noticeSequences x,
       x.lost &&& 0xFFFF#32] := by
  rw [← zero_append_extractLsb', ← flagBit_not_isEmpty]
  rfl

/-! ## An exception record (Table 11-6, R194) -/

def recordWord0 (r : ExceptionRecord) : Word :=
  r.seq ++ r.cls.code ++ r.action.code ++ flagBit r.lossBefore ++ flagBit r.absent ++ flagBit r.companion ++
    flagBit r.wrappedToNull ++ bitsOf 4 (3 + r.optionalWords.length)

def channelBits (r : ExceptionRecord) : BitVec 7 := match r.channel with | some c => bitsOf 7 c | none => 0#7

def recordWord2 (r : ExceptionRecord) : Word :=
  flagBit r.channel.isSome ++ channelBits r ++ bitsOf 2 r.inputValue.length ++ bitsOf 2 r.storedValue.length ++ 0#1 ++
    bitsOf 3 r.stream ++ 0#16

theorem ExceptionRecord.words_eq (r : ExceptionRecord) :
    r.words = [recordWord0 r, r.generation ++ r.inputSeq, recordWord2 r] ++ r.optionalWords := rfl

theorem recordWord0_fields (r : ExceptionRecord) :
    (recordWord0 r).extractLsb' 16 16 = r.seq ∧ (recordWord0 r).extractLsb' 12 4 = r.cls.code ∧
    (recordWord0 r).extractLsb' 8 4 = r.action.code ∧ (recordWord0 r).extractLsb' 7 1 = flagBit r.lossBefore ∧
    (recordWord0 r).extractLsb' 6 1 = flagBit r.absent ∧ (recordWord0 r).extractLsb' 5 1 = flagBit r.companion ∧
    (recordWord0 r).extractLsb' 4 1 = flagBit r.wrappedToNull ∧
    (recordWord0 r).extractLsb' 0 4 = bitsOf 4 (3 + r.optionalWords.length) := by
  refine ⟨?_, ?_, ?_, ?_, ?_, ?_, ?_, ?_⟩
  all_goals
    unfold recordWord0
    repeat rw [BitVec.extractLsb'_append_eq_of_le (by decide)]
    repeat rw [BitVec.extractLsb'_append_eq_of_add_le (by decide)]
    exact BitVec.extractLsb'_eq_self

theorem recordWord2_fields (r : ExceptionRecord) :
    (recordWord2 r).extractLsb' 31 1 = flagBit r.channel.isSome ∧ (recordWord2 r).extractLsb' 24 7 = channelBits r ∧
    (recordWord2 r).extractLsb' 22 2 = bitsOf 2 r.inputValue.length ∧
    (recordWord2 r).extractLsb' 20 2 = bitsOf 2 r.storedValue.length ∧ (recordWord2 r).extractLsb' 19 1 = flagBit false ∧
    (recordWord2 r).extractLsb' 16 3 = bitsOf 3 r.stream ∧ (recordWord2 r).extractLsb' 0 16 = 0 := by
  refine ⟨?_, ?_, ?_, ?_, ?_, ?_, ?_⟩
  all_goals
    unfold recordWord2
    repeat rw [BitVec.extractLsb'_append_eq_of_le (by decide)]
    repeat rw [BitVec.extractLsb'_append_eq_of_add_le (by decide)]
    exact BitVec.extractLsb'_eq_self

theorem toNat_channelBits {r : ExceptionRecord} {ch : Fin 128} (h : r.channel = some ch) : (channelBits r).toNat = ch.val := by
  unfold channelBits
  split
  · next hch =>
    cases h.symm.trans hch
    exact toNat_bitsOf (by omega)
  · next hch => exact nomatch h.symm.trans hch

theorem channelBits_of_none {r : ExceptionRecord} (h : r.channel = none) : channelBits r = 0 := by
  unfold channelBits
  split
  · next hch => exact nomatch h.symm.trans hch
  · rfl

/-- The words of a record after its value fields: the exponent or the counts. -/
def laterWords (r : ExceptionRecord) : List Word :=
  match r.exponent, r.counts with
  | some e, _ => [e.signExtend 32]
  | none, some (declared, received) => [declared ++ received]
  | none, none => []

theorem length_laterWords (r : ExceptionRecord) : (laterWords r).length ≤ 1 := by
  unfold laterWords
  split <;> simp

theorem optionalWords_eq {r : ExceptionRecord} (h : r.exponent = none ∨ r.counts = none) :
    r.optionalWords = r.inputValue ++ r.storedValue ++ laterWords r := by
  unfold ExceptionRecord.optionalWords laterWords
  cases he : r.exponent with
  | none => cases r.counts <;> simp
  | some e =>
    have hnone : r.counts = none := h.resolve_left (by simp [he])
    simp [hnone]

/-- A record counts its own words in the last four bits of its first word. -/
theorem recordWord0_length {r : ExceptionRecord} (hin : r.inputValue.length ≤ 2) (hstored : r.storedValue.length ≤ 2)
    (h : r.exponent = none ∨ r.counts = none) : ((recordWord0 r).extractLsb' 0 4).toNat = r.words.length := by
  obtain ⟨_, _, _, _, _, _, _, hcount⟩ := recordWord0_fields r
  have hlater := length_laterWords r
  have hlength : r.optionalWords.length = r.inputValue.length + r.storedValue.length + (laterWords r).length := by
    rw [optionalWords_eq h, List.length_append, List.length_append]
  rw [hcount, toNat_bitsOf (by omega), Nat.add_comm]
  rfl

/-- Settles O53: each word's fields, and the header of each frame. -/
theorem framesAreLaidOut : Obligations.FramesAreLaidOut := by
  unfold Obligations.FramesAreLaidOut
  refine ⟨fun x => by cases x <;> rfl, fun x => ?_, fun x => by cases x <;> rfl, fun x => by cases x <;> rfl,
    fun x => by cases x <;> rfl, ?_⟩
  · cases x with
    | channel c => cases c <;> rfl
    | length => rfl
    | holdBusy => rfl
  intro passes
  refine ⟨fun c h => ?_, fun r h => ?_, fun a => ?_, fun a => ?_, fun reason a x hold h => ?_, fun r hin hstored h => ?_⟩
  · obtain ⟨hkind, hflag, hexc, hgap, hrel, htimed, href, hnode, hout, hcount⟩ := conditionedWord_fields c
    exact ⟨conditionedWord c, c.words_eq, hkind, getLsbD_of_flagField (b := true) hflag, getLsbD_of_flagField hexc,
      getLsbD_of_flagField hgap, getLsbD_of_flagField hrel, getLsbD_of_flagField htimed, getLsbD_of_flagField href, hnode, hout,
      (congrArg _ hcount).trans (toNat_bitsOf (by omega)), fun hshort => verdict_frame (isFrame_conditioned hshort)⟩
  · obtain ⟨hkind, hsource, hzero, htag, hcount⟩ := responseWord_fields r
    exact ⟨responseWord r, r.words_eq, hkind, hsource, hzero, htag, (congrArg _ hcount).trans (toNat_bitsOf (by omega)),
      verdict_frame (isFrame_response h)⟩
  · exact ⟨rfl, verdict_frame (isFrame_short .report a rfl (by decide) (rest := identification a) rfl)⟩
  · exact ⟨rfl, verdict_frame (isFrame_short .enumerate 0 rfl (by decide) (rest := [0#26 ++ a]) rfl)⟩
  · refine ⟨noticeSequences x, ?_, noticeWords_eq reason a x hold,
      verdict_frame (isFrame_short .notice a rfl (by decide) (rest := (noticeWords reason a x hold).tail) rfl)⟩
    dsimp only
    unfold noticeSequences
    cases x.queue.head? with
    | none => rfl
    | some oldest => cases x.queue.getLast? <;> rfl
  · obtain ⟨hseq, hcls, haction, hloss, habsent, hcompanion, hwrapped, _⟩ := recordWord0_fields r
    obtain ⟨hflag, hchannel, hinput, hstoredCount, hclear, hstream, hzero⟩ := recordWord2_fields r
    refine ⟨recordWord0 r, recordWord2 r, laterWords r, ?_, ?_, hseq, hcls, haction, getLsbD_of_flagField hloss,
      getLsbD_of_flagField habsent, getLsbD_of_flagField hcompanion, getLsbD_of_flagField hwrapped, recordWord0_length hin hstored h,
      getLsbD_of_flagField hflag, fun ch hch => (congrArg _ hchannel).trans (toNat_channelBits hch),
      fun hch => hchannel.trans (channelBits_of_none hch), (congrArg _ hinput).trans (toNat_bitsOf (by omega)),
      (congrArg _ hstoredCount).trans (toNat_bitsOf (by omega)), getLsbD_of_flagField hclear,
      (congrArg _ hstream).trans (toNat_bitsOf (by omega)), hzero⟩
    · rw [r.words_eq, optionalWords_eq h]
    · unfold laterWords
      cases r.exponent with
      | some e => rfl
      | none => cases r.counts <;> rfl

end Sys2Proof.Machine
end


section
/-! Proofs about integer slots and null inputs (R1 to R3, R7, R8, R16, R20, R21, R34, R39 to R42): which sample a channel reads, what
the word of an integer reads back as, and which split channel owns a companion. -/

namespace Sys2Proof.Machine

set_option Elab.async false

/-! ## Integer words -/

theorem toInt_ofInt_of_bounds {n : Nat} {v : Int} (hlow : -(2 ^ n : Nat) ≤ v) (hhigh : v < (2 ^ n : Nat)) :
    (BitVec.ofInt (n + 1) v).toInt = v := by
  rw [BitVec.toInt_ofInt]
  have hdouble : 2 ^ (n + 1) = 2 * 2 ^ n := Nat.pow_succ'
  exact Int.bmod_eq_of_le (by omega) (by omega)

theorem toInt_word_i16 {v : Int} (hlow : -32768 ≤ v) (hhigh : v ≤ 32767) : (IntFormat.i16.word v).toInt = v :=
  (BitVec.toInt_signExtend_of_le (by decide)).trans (toInt_ofInt_of_bounds (n := 15) hlow (Int.lt_add_one_of_le hhigh))

theorem toNat_word_ob16 {v : Int} (hlow : -32768 ≤ v) (hhigh : v ≤ 32767) : ((IntFormat.ob16.word v).toNat : Int) = v + 32768 := by
  have hwidth : (IntFormat.ob16.word v).toNat = (BitVec.ofInt 16 (v + 32768)).toNat :=
    (BitVec.toNat_setWidth ..).trans (Nat.mod_eq_of_lt (by omega))
  rw [hwidth, BitVec.toNat_ofInt]
  omega

theorem toInt_word_i32 {v : Int} (hlow : -2147483648 ≤ v) (hhigh : v ≤ 2147483647) : (IntFormat.i32.word v).toInt = v :=
  toInt_ofInt_of_bounds (n := 31) hlow (Int.lt_add_one_of_le hhigh)

/-- An integer word stands for a value (R1, R2, R3). -/
def IntFormat.Reads (f : IntFormat) (w : Word) (v : Int) : Prop :=
  match f with
  | .i16 => w.toInt = v
  | .ob16 => (w.toNat : Int) = v + 32768
  | .i32 => w.toInt = v

theorem IntFormat.word_reads {f : IntFormat} {v : Int} (hlow : f.least ≤ v) (hhigh : v ≤ f.greatest) : f.Reads (f.word v) v := by
  cases f with
  | i16 => exact toInt_word_i16 hlow hhigh
  | ob16 => exact toNat_word_ob16 hlow hhigh
  | i32 => exact toInt_word_i32 hlow hhigh

theorem IntFormat.zero_in_range (f : IntFormat) : f.least ≤ 0 ∧ 0 ≤ f.greatest := by cases f <;> decide

theorem IntFormat.nearestLimit_in_range (f : IntFormat) (n : Int) : f.least ≤ f.nearestLimit n ∧ f.nearestLimit n ≤ f.greatest := by
  have hle : f.least ≤ f.greatest := by cases f <;> decide
  unfold IntFormat.nearestLimit
  split
  · exact ⟨le_rfl, hle⟩
  · exact ⟨hle, le_rfl⟩

/-! ## The settling of an integer slot (R16, R39) -/

section
variable {p : RangePolicy} {f : IntFormat} {companion : Bool} {input : List Word} {n : Int}

theorem settleInteger_of_inRange (hlow : f.least ≤ n) (hhigh : n ≤ f.greatest) :
    settleInteger p f companion input n = ⟨[f.word n], none⟩ := if_pos ⟨hlow, hhigh⟩

theorem settleInteger_of_outside (h : n < f.least ∨ f.greatest < n) :
    settleInteger p f companion input n =
      ⟨rangeWords p f n, some ⟨.range, p.action, false, companion, false, input, none⟩⟩ := if_neg (by omega)

end

/-- Settles O48: the word of a value in range reads back as it, and both limits and 0 are in range. -/
theorem integerSlotIsSettled : Obligations.IntegerSlotIsSettled := by
  intro p f companion input n least greatest holds out
  have hleast : least = f.least := by cases f <;> rfl
  have hgreatest : greatest = f.greatest := by cases f <;> rfl
  have hholds {v : Int} (hv : f.least ≤ v ∧ v ≤ f.greatest) : holds [f.word v] v := by
    have hreads := IntFormat.word_reads hv.1 hv.2
    cases f <;> exact ⟨_, rfl, hreads⟩
  rw [hleast, hgreatest]
  refine ⟨fun hlow hhigh => ?_, fun houtside => ?_⟩
  · have hout : out = ⟨[f.word n], none⟩ := settleInteger_of_inRange hlow hhigh
    rw [hout]
    exact ⟨rfl, hholds ⟨hlow, hhigh⟩⟩
  · have hout : out = ⟨rangeWords p f n, _⟩ := settleInteger_of_outside houtside
    rw [hout]
    refine ⟨rfl, ?_, ?_⟩
    · rintro rfl
      exact hholds f.zero_in_range
    · rintro (rfl | rfl) <;> exact hholds (f.nearestLimit_in_range n)

/-! ## The sample that a channel reads (R8, R40) -/

section
variable {payload : List Word} {position : Nat} {f : Format} {w lo : Word}

theorem rawInput_absent (h : payload.length ≤ position ∨ f = .lr ∧ payload.length ≤ position + 1) :
    rawInput payload position f = none := by
  unfold rawInput
  split
  · exact if_neg (by omega)
  · next hf =>
    have hshort : payload.length ≤ position := h.resolve_right fun hlr => hf hlr.1
    exact if_neg (by omega)

theorem getD_of_getElem? {i : Nat} (h : payload[i]? = some w) : payload.getD i 0 = w := by
  rw [List.getD_eq_getElem?_getD, h, Option.getD_some]

theorem rawInput_single (hf : f ≠ .lr) (h : payload[position]? = some w) : rawInput payload position f = some [w] := by
  obtain ⟨hlt, -⟩ := List.getElem?_eq_some_iff.1 h
  rw [rawInput, if_neg hf, if_pos hlt, getD_of_getElem? h]

theorem rawInput_double (h : payload[position]? = some w) (hlo : payload[position + 1]? = some lo) :
    rawInput payload position .lr = some [w, lo] := by
  obtain ⟨hlt, -⟩ := List.getElem?_eq_some_iff.1 hlo
  rw [rawInput, if_pos rfl, if_pos hlt, getD_of_getElem? h, getD_of_getElem? hlo]

end

/-! ## The fields of an LR value (R190) -/

theorem lrFields_append (hi lo : Word) :
    lrFields (hi ++ lo) =
      ⟨hi.getLsbD 31, (hi.extractLsb' 19 12).toNat, (hi.extractLsb' 0 19).toNat * 2 ^ 32 + lo.toNat⟩ := by
  have hsign : (hi ++ lo).getLsbD 63 = hi.getLsbD 31 := BitVec.getLsbD_append
  have hexponent : (hi ++ lo).extractLsb' 51 12 = hi.extractLsb' 19 12 := BitVec.extractLsb'_append_eq_of_le (by decide)
  have hfraction : (hi ++ lo).extractLsb' 0 51 = hi.extractLsb' 0 19 ++ lo := by
    ext i hi
    simp
    grind
  have hvalue : (hi.extractLsb' 0 19 ++ lo).toNat = (hi.extractLsb' 0 19).toNat * 2 ^ 32 + lo.toNat := by
    rw [BitVec.toNat_append, ← Nat.shiftLeft_add_eq_or_of_lt lo.isLt, Nat.shiftLeft_eq]
  rw [lrFields, hsign, hexponent, hfraction, hvalue]

theorem lrFields_doubleWord (hi lo : Word) :
    lrFields (doubleWord hi lo) =
      ⟨hi.getLsbD 31, (hi.extractLsb' 19 12).toNat, (hi.extractLsb' 0 19).toNat * 2 ^ 32 + lo.toNat⟩ := lrFields_append hi lo

/-! ## Null inputs (R7, R40) -/

section
variable {nullCode : Option Word} {w lo c : Word} {raw : List Word}

theorem decodeSample_sr_null (hexponent : w.extractLsb' 22 9 = 0) (hsign : w.getLsbD 31 = true) :
    decodeSample .sr nullCode [w] = none := by
  have hnull : (srFields w).isMarkedNull = true := by simp [srFields, RealFields.isMarkedNull, bits, hexponent, hsign]
  exact if_pos hnull

theorem decodeSample_lr_null (hexponent : w.extractLsb' 19 12 = 0) (hsign : w.getLsbD 31 = true) :
    decodeSample .lr nullCode [w, lo] = none := by
  have hnull : (lrFields (doubleWord w lo)).isMarkedNull = true := by
    simp [lrFields_doubleWord, RealFields.isMarkedNull, hexponent, hsign]
  exact if_pos hnull

theorem decodeSample_int_null {f : Format} {k : IntFormat} (hf : f.split = .int k) (h : c.toInt = rawNumber k w) :
    decodeSample f (some c) [w] = none := by
  unfold decodeSample
  rw [hf]
  exact if_pos (congrArg some h)

end

section
variable {b : Bank} {payload : List Word} {ch k : Fin 128} {d : Descriptor}

theorem channelResult_absent (h : rawInput payload d.position d.inputFormat = none) : channelResult payload d = (none, none) := by
  rw [channelResult, h]

theorem channelResult_of_raw {raw : List Word} (h : rawInput payload d.position d.inputFormat = some raw) :
    channelResult payload d =
      (some raw, (decodeSample d.inputFormat d.inputNull raw).map fun x => transform x (lrValue d.gain) (lrValue d.offset)) := by
  rw [channelResult, h]

theorem channelResult_null {raw : List Word} (h : rawInput payload d.position d.inputFormat = some raw)
    (hnull : decodeSample d.inputFormat d.inputNull raw = none) : channelResult payload d = (some raw, none) := by
  rw [channelResult_of_raw h, hnull, Option.map_none]

theorem settlePrimary_null {raw : Option (List Word)} (h : channelResult payload d = (raw, none)) :
    settlePrimary payload ch d = ⟨nullSettledWords d.null ch d, some (nullCondition d.null raw)⟩ := by
  rw [settlePrimary, h]

/-- The split channel of least number that names a companion owns it (R29). -/
theorem splitOwner_of_least (hkind : (b.channel ch).kind = .primary) (hmode : (b.channel ch).mode = .split)
    (hcompanion : (b.channel ch).companion = some k)
    (hleast : ∀ j : Fin 128, j < ch →
      ¬ ((b.channel j).kind = .primary ∧ (b.channel j).mode = .split ∧ (b.channel j).companion = some k)) :
    splitOwner b k = some ch := by
  refine List.find?_eq_some_iff_getElem.2 ⟨claims_iff.2 ⟨⟨hkind, hmode⟩, hcompanion⟩, ch, by simp, by simp, fun j hj => ?_⟩
  have hfree := hleast ⟨j, by omega⟩ hj
  rw [Bool.not_eq_true', Bool.eq_false_iff]
  intro hclaims
  obtain ⟨⟨hprimary, hsplit⟩, hnamed⟩ := claims_iff.1 hclaims
  exact hfree ⟨by simpa using hprimary, by simpa using hsplit, by simpa using hnamed⟩

theorem settleCompanion_null {raw : Option (List Word)} (howner : splitOwner b k = some ch)
    (h : channelResult payload (b.channel ch) = (raw, none)) (d : Descriptor) :
    settleCompanion b payload k d = ⟨nullSettledWords (b.channel ch).null k d, none⟩ := by
  rw [settleCompanion, howner]
  dsimp only
  rw [h]

end

/-! ## The value of a null policy (R20, R21, R34) -/

section
variable {ch : Fin 128} {d : Descriptor}

theorem nullSettledWords_of_ne_zero {p : NullPolicy} (h : p ≠ .zero) : nullSettledWords p ch d = nullValue ch d := by
  cases p with
  | zero => exact absurd rfl h
  | propagate => rfl
  | divert => rfl

theorem nullValue_int {f : IntFormat} {c : Word} (hf : d.outputFormat.split = .int f) (hc : d.outputNull = some c) :
    nullValue ch d = [f.nullWord c] := by
  rw [nullValue, hf, hc]

theorem nullValue_real {f : RealFormat} (hf : d.outputFormat.split = .real f) : nullValue ch d = f.nullWords := by
  rw [nullValue, hf]

theorem toInt_nullWord_i16 {c : Word} (hlow : -32768 ≤ c.toInt) (hhigh : c.toInt ≤ 32767) : (IntFormat.i16.nullWord c).toInt = c.toInt := by
  refine (BitVec.toInt_signExtend_of_le (by decide)).trans ?_
  have hcut : (c.extractLsb' 0 16).toNat = c.toNat % 65536 := BitVec.extractLsb'_toNat ..
  have hlt := c.isLt
  rw [BitVec.toInt_eq_toNat_cond] at hlow hhigh ⊢
  rw [BitVec.toInt_eq_toNat_cond, hcut]
  split at hlow <;> split <;> omega

theorem toNat_nullWord_ob16 {c : Word} (hlow : 0 ≤ c.toInt) (hhigh : c.toInt ≤ 65535) :
    ((IntFormat.ob16.nullWord c).toNat : Int) = c.toInt := by
  have hcut : (c.extractLsb' 0 16).toNat = c.toNat % 65536 := BitVec.extractLsb'_toNat ..
  have hwidth : (IntFormat.ob16.nullWord c).toNat = (c.extractLsb' 0 16).toNat :=
    (BitVec.toNat_setWidth ..).trans (Nat.mod_eq_of_lt (by omega))
  have hlt := c.isLt
  rw [hwidth, hcut]
  rw [BitVec.toInt_eq_toNat_cond] at hlow hhigh ⊢
  split at hlow <;> split <;> omega

end

/-- Settles O51: a null input gives the channel no y, which both slots settle by the null policy. -/
theorem nullInputsAreSettled : Obligations.NullInputsAreSettled := by
  refine ⟨?_, fun p ch d => ⟨?_, fun hp => ?_⟩⟩
  · intro b payload ch d position nullAs
    have hnull {raw : Option (List Word)} (h : channelResult payload d = (raw, none)) : nullAs raw.isNone (raw.getD []) :=
      ⟨settlePrimary_null h, fun k hkind hmode hcompanion hleast =>
        settleCompanion_null (splitOwner_of_least hkind hmode hcompanion hleast) h _⟩
    refine ⟨fun h => hnull (channelResult_absent (rawInput_absent h)), fun w hw => ⟨fun hf he hs => ?_, fun lo hf hlo he hs => ?_,
      fun c hc => ⟨fun hf h => ?_, fun hf h => ?_, fun hf h => ?_⟩⟩⟩
    · exact hnull (channelResult_null (raw := [w]) (rawInput_single (by rw [hf]; decide) hw) (hf ▸ decodeSample_sr_null he hs))
    · exact hnull (channelResult_null (raw := [w, lo]) (hf ▸ rawInput_double hw hlo) (hf ▸ decodeSample_lr_null he hs))
    · exact hnull (channelResult_null (raw := [w]) (rawInput_single (by rw [hf]; decide) hw)
        (hc ▸ decodeSample_int_null (k := .i16) (by rw [hf]; rfl) h.symm))
    · exact hnull (channelResult_null (raw := [w]) (rawInput_single (by rw [hf]; decide) hw)
        (hc ▸ decodeSample_int_null (k := .ob16) (by rw [hf]; rfl) h.symm))
    · exact hnull (channelResult_null (raw := [w]) (rawInput_single (by rw [hf]; decide) hw)
        (hc ▸ decodeSample_int_null (k := .i32) (by rw [hf]; rfl) (congrArg BitVec.toInt h.symm)))
  · rintro rfl
    rw [nullSettledWords, zeroValue]
    cases d.outputFormat <;> decide
  · rw [nullSettledWords_of_ne_zero hp]
    refine ⟨fun hf => ?_, fun hf => ?_, fun c hc hfits => ?_⟩
    · rw [nullValue_real (f := .sr) (by rw [hf]; rfl)]
      decide
    · rw [nullValue_real (f := .lr) (by rw [hf]; rfl)]
      decide
    · rcases hfits with ⟨hf, hlow, hhigh⟩ | ⟨hf, hlow, hhigh⟩ | hf
      · exact ⟨_, nullValue_int (f := .i16) (by rw [hf]; rfl) hc, fun _ => toInt_nullWord_i16 hlow hhigh,
          fun h => absurd (hf.symm.trans h) (by decide), fun h => absurd (hf.symm.trans h) (by decide)⟩
      · exact ⟨_, nullValue_int (f := .ob16) (by rw [hf]; rfl) hc, fun h => absurd (hf.symm.trans h) (by decide),
          fun _ => toNat_nullWord_ob16 hlow hhigh, fun h => absurd (hf.symm.trans h) (by decide)⟩
      · exact ⟨_, nullValue_int (f := .i32) (by rw [hf]; rfl) hc, fun h => absurd (hf.symm.trans h) (by decide),
          fun h => absurd (hf.symm.trans h) (by decide), fun _ => rfl⟩

end Sys2Proof.Machine
end


section
/-! Proofs about real slots (R4 to R6, R11, R14, R18, R20, R37, R38, R190): the fields and the value of a real word, the bounds of a
rounded result, and what each policy stores. -/

namespace Sys2Proof.Machine

set_option Elab.async false

/-! ## The fields and the value of a real word -/

/-- The value of a real word, in units of 2^-n where the exponent of its scale does not fall below 0 (R4, R5). -/
theorem realMagnitude_div {fractionBits fraction exponent bias n : Nat} (h : bias + fractionBits ≤ exponent + n) :
    (((2 ^ fractionBits + fraction) * 2 ^ (exponent + n - bias - fractionBits) : ℕ) : ℚ) / 2 ^ n =
      (1 + (fraction : ℚ) / 2 ^ fractionBits) * (2 : ℚ) ^ ((exponent : Int) - bias) := by
  have hscale : (2 : ℚ) ^ (exponent + n - bias - fractionBits) * 2 ^ fractionBits = (2 : ℚ) ^ ((exponent : Int) - bias) * 2 ^ n := by
    rw [← zpow_natCast, ← zpow_natCast, ← zpow_natCast, ← zpow_add₀ two_ne_zero, ← zpow_add₀ two_ne_zero]
    congr 1
    omega
  push_cast
  field_simp
  linear_combination hscale

/-- The value of a real word as the manual gives it (R4, R5, R6). -/
theorem value_div (x : RealFields) (f : RealFormat) :
    (x.value f : ℚ) / 2 ^ sampleScale =
      if x.exponent = 0 then 0
      else (if x.sign then -1 else 1) * (1 + (x.fraction : ℚ) / 2 ^ f.fractionBits) * (2 : ℚ) ^ ((x.exponent : Int) - f.bias) := by
  unfold RealFields.value
  split
  · simp
  · next he =>
    have hscale : f.bias + f.fractionBits ≤ x.exponent + sampleScale := by
      have hmost : f.bias + f.fractionBits ≤ 1 + sampleScale := by cases f <;> decide
      omega
    have hm := realMagnitude_div (fraction := x.fraction) hscale
    push_cast at hm
    cases x.sign with
    | false =>
      simp only [Bool.false_eq_true, if_false, one_mul]
      push_cast
      exact hm
    | true =>
      simp only [if_true]
      push_cast
      rw [neg_div, hm]
      ring

/-- The words of a real value hold given fields. -/
def RealFormat.Reads (f : RealFormat) (words : List Word) (x : RealFields) : Prop :=
  match f with
  | .sr => ∃ w, words = [w] ∧ srFields w = x
  | .lr => ∃ hi lo, words = [hi, lo] ∧ lrFields (hi ++ lo) = x

theorem lrFields_fields (s : BitVec 1) (e : BitVec 12) (m : BitVec 51) :
    lrFields (s ++ e ++ m) = ⟨s.getLsbD 0, e.toNat, m.toNat⟩ := by
  have hsign : (s ++ e ++ m).getLsbD 63 = s.getLsbD 0 := BitVec.getLsbD_append.trans BitVec.getLsbD_append
  have hexponent : (s ++ e ++ m).extractLsb' 51 12 = e :=
    (BitVec.extractLsb'_append_eq_of_le (by decide)).trans BitVec.extractLsb'_append_eq_right
  have hfraction : (s ++ e ++ m).extractLsb' 0 51 = m := BitVec.extractLsb'_append_eq_right
  rw [lrFields, RealFields.mk.injEq]
  exact ⟨hsign, congrArg BitVec.toNat hexponent, congrArg BitVec.toNat hfraction⟩

theorem words_lr_reads (sign : Bool) {exponent fraction : Nat} (he : exponent < 2 ^ 12) (hf : fraction < 2 ^ 51) :
    ∃ hi lo, RealFormat.lr.words sign exponent fraction = [hi, lo] ∧ lrFields (hi ++ lo) = ⟨sign, exponent, fraction⟩ := by
  refine ⟨_, _, rfl, ?_⟩
  rw [highWord, lowWord, ← highWord_append_lowWord, lrFields_fields, getLsbD_flagBit, toNat_bitsOf he, toNat_bitsOf hf]

/-- The words written for a sign, an exponent field and a fraction field hold them. -/
theorem RealFormat.words_reads (f : RealFormat) (sign : Bool) {exponent fraction : Nat} (he : exponent < f.period)
    (hf : fraction < 2 ^ f.fractionBits) : f.Reads (f.words sign exponent fraction) ⟨sign, exponent, fraction⟩ := by
  cases f with
  | sr => exact words_sr_reads sign he hf
  | lr => exact words_lr_reads sign he hf

theorem RealFormat.period_pos (f : RealFormat) : 0 < f.period := by cases f <;> decide
theorem RealFormat.maxExponent_lt_period (f : RealFormat) : f.maxExponent < f.period := by cases f <;> decide

/-! ## The bounds of a rounded result (R11 to R13) -/

section
variable (f : RealFormat) (mode : Rounding) {y : Int}

theorem log2_bounds (hy : y ≠ 0) : 2 ^ y.natAbs.log2 ≤ y.natAbs ∧ y.natAbs < 2 ^ (y.natAbs.log2 + 1) :=
  ⟨Nat.log2_self_le (Int.natAbs_ne_zero.2 hy), Nat.lt_log2_self⟩

theorem cutSignificand_bounds {magnitude k : Nat} (h1 : 2 ^ k ≤ magnitude) (h2 : magnitude < 2 ^ (k + 1)) :
    2 ^ f.fractionBits ≤ cutSignificand f mode magnitude k ∧ cutSignificand f mode magnitude k ≤ 2 ^ f.precision := by
  cases mode with
  | chop => exact ⟨le_cutSignificand_chop_of_normal h1, (cutSignificand_chop_lt h2).le⟩
  | round =>
    refine ⟨le_cutSignificand_round.2 (le_trans ?_ (Nat.le_add_right ..)), cutSignificand_round_le h2⟩
    calc 2 ^ f.fractionBits * 2 ^ (k + 1) = 2 ^ k * 2 ^ f.precision := by rw [RealFormat.precision]; ring
      _ ≤ magnitude * 2 ^ f.precision := Nat.mul_le_mul_right _ h1

/-- The significand of a rounded result lies in 1 to 2 - 2^-(p-1). -/
theorem roundReal_significand (hy : y ≠ 0) :
    2 ^ f.fractionBits ≤ (roundReal f mode y).significand ∧ (roundReal f mode y).significand < 2 ^ f.precision := by
  obtain ⟨h1, h2⟩ := log2_bounds hy
  obtain ⟨hleast, hmost⟩ := cutSignificand_bounds f mode h1 h2
  by_cases hq : cutSignificand f mode y.natAbs y.natAbs.log2 = 2 ^ f.precision
  · rw [roundReal_of_carry h1 h2 hq]
    exact ⟨le_rfl, Nat.pow_lt_pow_right Nat.one_lt_two (Nat.lt_succ_self _)⟩
  · rw [roundReal_of_no_carry h1 h2 hq]
    exact ⟨hleast, lt_of_le_of_ne hmost hq⟩

/-- The exponent of a rounded result is that of y, or one more. -/
theorem roundReal_exponent (hy : y ≠ 0) :
    (y.natAbs.log2 : Int) - 4194 ≤ (roundReal f mode y).exponent ∧
    (roundReal f mode y).exponent ≤ (y.natAbs.log2 : Int) - 4194 + 1 := by
  obtain ⟨h1, h2⟩ := log2_bounds hy
  by_cases hq : cutSignificand f mode y.natAbs y.natAbs.log2 = 2 ^ f.precision
  · rw [roundReal_of_carry h1 h2 hq]
    exact ⟨Int.le_add_one le_rfl, le_rfl⟩
  · rw [roundReal_of_no_carry h1 h2 hq]
    exact ⟨le_rfl, Int.le_add_one le_rfl⟩

theorem roundReal_fraction_lt (hy : y ≠ 0) : (roundReal f mode y).fraction f < 2 ^ f.fractionBits := by
  obtain ⟨hleast, hmost⟩ := roundReal_significand f mode hy
  rw [RealFormat.precision, Nat.pow_succ] at hmost
  rw [RoundedReal.fraction]
  omega

end

theorem wrapExponent_lt (r : RoundedReal) (f : RealFormat) : r.wrapExponent f < f.period := by
  have hperiod := f.period_pos
  have hlt := Int.emod_lt_of_pos (r.biased f) (Int.natCast_pos.2 hperiod)
  have hnonneg := Int.emod_nonneg (r.biased f) (Int.natCast_ne_zero.2 hperiod.ne')
  rw [RoundedReal.wrapExponent]
  omega

/-! ## The settling of a real slot -/

section
variable {d : Descriptor} {f : RealFormat} {input : List Word} {y : Int}

theorem settleReal_zero : settleReal d f input 0 = ⟨f.zeroWords, none⟩ := if_pos rfl

theorem settleReal_of_overflow (hy : y ≠ 0) (h : (f.maxExponent : Int) < (roundReal f d.rounding y).biased f) :
    settleReal d f input y =
      ⟨overflowWords d.overflow f (roundReal f d.rounding y), some ⟨.overflow, d.overflow.action, false, false,
        wrapsToNull d.overflow.action f (roundReal f d.rounding y), input, some (roundReal f d.rounding y).trueExponent⟩⟩ :=
  (if_neg hy).trans (if_pos h)

theorem settleReal_of_underflow (hy : y ≠ 0) (h : (roundReal f d.rounding y).biased f < 1) :
    settleReal d f input y =
      ⟨underflowWords d.underflow f (roundReal f d.rounding y), some ⟨.underflow, d.underflow.action, false, false,
        wrapsToNull d.underflow.action f (roundReal f d.rounding y), input, some (roundReal f d.rounding y).trueExponent⟩⟩ :=
  (if_neg hy).trans ((if_neg (by omega)).trans (if_pos h))

theorem wrapsToNull_overflow (p : OverflowPolicy) (f : RealFormat) (r : RoundedReal) :
    wrapsToNull p.action f r = decide ((p = .wrap ∨ p = .divert) ∧ r.wrapExponent f = 0) := by
  rw [Bool.eq_iff_iff]
  cases p <;> simp [wrapsToNull, OverflowPolicy.action]

theorem wrapsToNull_underflow (p : UnderflowPolicy) (f : RealFormat) (r : RoundedReal) :
    wrapsToNull p.action f r = decide ((p = .wrap ∨ p = .divert) ∧ r.wrapExponent f = 0) := by
  rw [Bool.eq_iff_iff]
  cases p <;> simp [wrapsToNull, UnderflowPolicy.action]

theorem settlePrimary_plain_real {payload raw : List Word} {ch : Fin 128} (hmode : d.mode = .plain)
    (hformat : d.outputFormat.split = .real f) (hresult : channelResult payload d = (some raw, some y)) :
    settlePrimary payload ch d = settleReal d f raw y := by
  simp only [settlePrimary, hresult, hmode, hformat, Option.getD_some]

end

/-- Settles O46: the three cases of B, and the words that each policy stores. -/
theorem realSlotIsSettled : Obligations.RealSlotIsSettled := by
  refine ⟨fun f => by cases f <;> rfl, fun f => by cases f <;> rfl, fun w => rfl, lrFields_append, fun f x => value_div x f,
    fun d f payload ch raw y => settlePrimary_plain_real, ?_⟩
  intro d f input y reads r b fraction wrapped out
  have hreads {sign : Bool} {exponent part : Nat} (he : exponent < f.period) (hf : part < 2 ^ f.fractionBits) :
      reads (f.words sign exponent part) ⟨sign, exponent, part⟩ := RealFormat.words_reads f sign he hf
  have hzero : reads f.zeroWords ⟨false, 0, 0⟩ := hreads f.period_pos (Nat.two_pow_pos _)
  refine ⟨fun hy => ?_, fun hy => ?_⟩
  · have hout : out = ⟨f.zeroWords, none⟩ := (congrArg (settleReal d f input) hy).trans settleReal_zero
    rw [hout]
    exact ⟨rfl, hzero⟩
  have hfraction : fraction < 2 ^ f.fractionBits := roundReal_fraction_lt f d.rounding hy
  have hwrapped : reads (r.wrapWords f) wrapped := hreads (wrapExponent_lt r f) hfraction
  refine ⟨fun hlow hhigh => ?_, fun hhigh => ?_, fun hlow => ?_⟩
  · have hout : out = ⟨r.inRangeWords f, none⟩ := settleReal_of_inRange hy rfl hlow hhigh
    have hexponent : b.toNat < f.period := lt_of_le_of_lt (by omega) f.maxExponent_lt_period
    rw [hout]
    exact ⟨rfl, hreads hexponent hfraction⟩
  · have hout : out = _ := settleReal_of_overflow hy hhigh
    rw [hout, wrapsToNull_overflow]
    refine ⟨rfl, ?_, ?_, ?_⟩
    · intro hp
      rw [hp]
      exact hzero
    · intro hp
      rw [hp]
      exact hreads f.maxExponent_lt_period (Nat.sub_lt (Nat.two_pow_pos _) Nat.one_pos)
    · rintro (hp | hp) <;> rw [hp] <;> exact hwrapped
  · have hout : out = _ := settleReal_of_underflow hy hlow
    rw [hout, wrapsToNull_underflow]
    refine ⟨rfl, ?_, ?_⟩
    · intro hp
      rw [hp]
      exact hzero
    · rintro (hp | hp) <;> rw [hp] <;> exact hwrapped

end Sys2Proof.Machine
end


section
/-! Proofs about the transform and split mode (R7 to R9, R19, R22 to R24): the exact value of a sample, of y and of the fraction, and
their bounds. -/

namespace Sys2Proof.Machine

set_option Elab.async false

/-! ## The value of y (R9) -/

theorem scale_ne_zero : (2 : ℚ) ^ sampleScale ≠ 0 := pow_ne_zero _ two_ne_zero

theorem transform_div (x gain offset : Int) :
    (transform x gain offset : ℚ) / 2 ^ resultScale =
      (x : ℚ) / 2 ^ sampleScale * ((gain : ℚ) / 2 ^ sampleScale) + (offset : ℚ) / 2 ^ sampleScale := by
  have hscale : (2 : ℚ) ^ resultScale = 2 ^ sampleScale * 2 ^ sampleScale := pow_add 2 sampleScale sampleScale
  have hne := scale_ne_zero
  rw [hscale, transform]
  push_cast
  field_simp

/-- A gain or an offset, as the value of its two words (R5, R6, R9). -/
theorem lrValue_div (c : DoubleWord) :
    (lrValue c : ℚ) / 2 ^ sampleScale =
      (lrFields (c.extractLsb' 32 32 ++ c.extractLsb' 0 32)).value .lr / (2 : ℚ) ^ sampleScale := by
  rw [← highWord_append_lowWord, lrValue]

/-! ## What a sample decodes to (R7, R8) -/

section
variable {nullCode : Option Word} {w lo : Word}

theorem decodeSample_int {f : Format} {k : IntFormat} (hf : f.split = .int k)
    (hcode : ∀ c, nullCode = some c → c.toInt ≠ rawNumber k w) :
    decodeSample f nullCode [w] = some (integerValue k w * 2 ^ sampleScale) := by
  unfold decodeSample
  rw [hf]
  refine if_neg fun h => ?_
  obtain ⟨c, hc, heq⟩ := Option.map_eq_some_iff.1 h
  exact hcode c hc heq

theorem decodeSample_sr (h : ¬ ((w.extractLsb' 22 9).toNat = 0 ∧ w.getLsbD 31 = true)) :
    decodeSample .sr nullCode [w] = some ((srFields w).value .sr) := by
  have hnot : ¬ (srFields w).isMarkedNull = true := by simpa [srFields, RealFields.isMarkedNull, bits] using h
  exact if_neg hnot

theorem decodeSample_lr (h : ¬ ((w.extractLsb' 19 12).toNat = 0 ∧ w.getLsbD 31 = true)) :
    decodeSample .lr nullCode [w, lo] = some ((lrFields (w ++ lo)).value .lr) := by
  have hnot : ¬ (lrFields (doubleWord w lo)).isMarkedNull = true := by
    simpa [lrFields_doubleWord, RealFields.isMarkedNull] using h
  exact if_neg hnot

end

theorem int_div_scale (n : Int) : ((n * 2 ^ sampleScale : Int) : ℚ) / 2 ^ sampleScale = n := by
  push_cast
  exact mul_div_cancel_right₀ _ scale_ne_zero

/-! ## The bounds of a sample, of y and of a fraction (R9, R19) -/

theorem natAbs_two_pow (n : Nat) : ((2 : Int) ^ n).natAbs = 2 ^ n := Int.natAbs_pow 2 n

/-- The exponent of the scale of the largest LR value, 4095 - 2047 - 51 + 2097. -/
def sampleShift : Nat := 4094

/-- The largest magnitude of an LR value, in units of 2^-2097: no sample, gain or offset lies beyond it. -/
def maxSample : Nat := (2 ^ 52 - 1) * 2 ^ sampleShift

/-- Every y lies below 2^4098, which is 2^8292 units of 2^-4194. -/
def resultBits : Nat := 8292

theorem natAbs_value_le {x : RealFields} {f : RealFormat} (he : x.exponent < f.period) (hf : x.fraction < 2 ^ f.fractionBits) :
    (x.value f).natAbs ≤ maxSample := by
  have hsignificand : 2 ^ f.fractionBits + x.fraction ≤ 2 ^ 52 - 1 := by
    cases f with
    | sr => exact le_trans (Nat.add_le_add_left (Nat.le_of_lt hf) _) (by decide)
    | lr =>
      have hf : x.fraction < 2 ^ 51 := hf
      show 2 ^ 51 + x.fraction ≤ 2 ^ 52 - 1
      omega
  have hexponent : x.exponent + sampleScale - f.bias - f.fractionBits ≤ sampleShift := by
    cases f <;> simp only [sampleShift, RealFormat.period, RealFormat.bias, RealFormat.fractionBits, sampleScale] at he ⊢ <;>
      omega
  have hmagnitude : (2 ^ f.fractionBits + x.fraction) * 2 ^ (x.exponent + sampleScale - f.bias - f.fractionBits) ≤ maxSample := by
    rw [maxSample]
    exact Nat.mul_le_mul hsignificand (Nat.pow_le_pow_right Nat.two_pos hexponent)
  have hcast : ((2 ^ f.fractionBits + x.fraction : Int) * 2 ^ (x.exponent + sampleScale - f.bias - f.fractionBits)).natAbs =
      (2 ^ f.fractionBits + x.fraction) * 2 ^ (x.exponent + sampleScale - f.bias - f.fractionBits) := by
    rw [← Int.natAbs_natCast ((2 ^ f.fractionBits + x.fraction) * _)]
    push_cast
    rfl
  unfold RealFields.value
  split
  · exact Nat.zero_le _
  · dsimp only
    split
    · rwa [Int.natAbs_neg, hcast]
    · rwa [hcast]

theorem natAbs_lrValue_le (w : DoubleWord) : ((lrFields w).value .lr).natAbs ≤ maxSample :=
  natAbs_value_le (BitVec.isLt _) (BitVec.isLt _)

theorem natAbs_integerValue_le (k : IntFormat) (w : Word) : (integerValue k w).natAbs ≤ 2 ^ 31 := by
  have hlt := w.isLt
  have hcut := (w.extractLsb' 0 16).isLt
  cases k with
  | i16 =>
    show ((w.extractLsb' 0 16).toInt).natAbs ≤ 2 ^ 31
    rw [BitVec.toInt_eq_toNat_cond]
    split <;> omega
  | ob16 =>
    show (((w.extractLsb' 0 16).toNat : Int) - 32768).natAbs ≤ 2 ^ 31
    omega
  | i32 =>
    show (w.toInt).natAbs ≤ 2 ^ 31
    rw [BitVec.toInt_eq_toNat_cond]
    split <;> omega

theorem natAbs_decodeSample_le {f : Format} {nullCode : Option Word} {raw : List Word} {x : Int}
    (h : decodeSample f nullCode raw = some x) : x.natAbs ≤ maxSample := by
  unfold decodeSample at h
  split at h
  · obtain ⟨-, hx⟩ := Option.ite_none_left_eq_some.1 h
    rw [← Option.some.inj hx, Int.natAbs_mul, natAbs_two_pow, maxSample]
    exact Nat.mul_le_mul (le_trans (natAbs_integerValue_le _ _) (by decide)) (Nat.pow_le_pow_right Nat.two_pos (by decide))
  · obtain ⟨-, hx⟩ := Option.ite_none_left_eq_some.1 h
    exact Option.some.inj hx ▸ natAbs_value_le (BitVec.isLt _) (BitVec.isLt _)
  · obtain ⟨-, hx⟩ := Option.ite_none_left_eq_some.1 h
    exact Option.some.inj hx ▸ natAbs_lrValue_le _

theorem maxSample_transform_lt : maxSample * maxSample + maxSample * 2 ^ sampleScale < 2 ^ resultBits := by decide +kernel

theorem natAbs_transform_lt {x gain offset : Int} (hx : x.natAbs ≤ maxSample) (hgain : gain.natAbs ≤ maxSample)
    (hoffset : offset.natAbs ≤ maxSample) : (transform x gain offset).natAbs < 2 ^ resultBits := by
  refine lt_of_le_of_lt (Int.natAbs_add_le ..) (lt_of_le_of_lt ?_ maxSample_transform_lt)
  rw [Int.natAbs_mul, Int.natAbs_mul, natAbs_two_pow]
  exact Nat.add_le_add (Nat.mul_le_mul hx hgain) (Nat.mul_le_mul_right _ hoffset)

/-- The exponent of a rounded result below the bound of y fits in 16 bits (R19). -/
theorem roundReal_exponent_bounds (f : RealFormat) (mode : Rounding) {v : Int} (hv : v ≠ 0) (hlt : v.natAbs < 2 ^ resultBits) :
    (-4194 : Int) ≤ (roundReal f mode v).exponent ∧ (roundReal f mode v).exponent ≤ 4098 ∧
    (roundReal f mode v).trueExponent.toInt = (roundReal f mode v).exponent := by
  obtain ⟨hlow, hhigh⟩ := roundReal_exponent f mode hv
  have hlog : v.natAbs.log2 < resultBits := (Nat.log2_lt (Int.natAbs_ne_zero.2 hv)).2 hlt
  rw [resultBits] at hlog
  exact ⟨by omega, by omega, toInt_ofInt_of_bounds (n := 15) (by omega) (by omega)⟩

/-! ## Split mode (R22) -/

section
variable (f : RealFormat) {y : Int}

/-- Below 2^p the fraction is what truncation leaves of y. -/
theorem splitFraction_eq_tmod (h : y.natAbs < 2 ^ (f.precision + resultScale)) : splitFraction f y = y.tmod (2 ^ resultScale) := by
  rw [splitFraction, if_pos h, wholePart, Int.tmod_def, Int.mul_comm]

theorem splitFraction_eq_zero (h : 2 ^ (f.precision + resultScale) ≤ y.natAbs) : splitFraction f y = 0 := if_neg h.not_gt

theorem natAbs_splitFraction_lt (y : Int) : (splitFraction f y).natAbs < 2 ^ resultScale := by
  by_cases h : y.natAbs < 2 ^ (f.precision + resultScale)
  · rw [splitFraction_eq_tmod f h, Int.natAbs_tmod, natAbs_two_pow]
    exact Nat.mod_lt _ (Nat.two_pow_pos _)
  · rw [splitFraction_eq_zero f (Nat.not_lt.1 h)]
    exact Nat.two_pow_pos _

/-- The fraction of a split channel raises no OVERFLOW. -/
theorem settleReal_condition_of_lt {d : Descriptor} {input : List Word} {g : Int} (h : g.natAbs < 2 ^ resultScale) {k : Condition}
    (hk : (settleReal d f input g).condition = some k) : k.cls = .underflow := by
  by_cases hg : g = 0
  · rw [hg, settleReal_zero] at hk
    cases hk
  · obtain ⟨-, hexponent⟩ := roundReal_exponent f d.rounding hg
    have hlog : g.natAbs.log2 < resultScale := (Nat.log2_lt (Int.natAbs_ne_zero.2 hg)).2 h
    rw [resultScale_eq] at hlog
    have hbias : f.bias ≤ f.maxExponent := by cases f <;> decide
    have hhigh : (roundReal f d.rounding g).biased f ≤ f.maxExponent := by
      rw [RoundedReal.biased]
      omega
    by_cases hlow : 1 ≤ (roundReal f d.rounding g).biased f
    · rw [settleReal_of_inRange hg rfl hlow hhigh] at hk
      cases hk
    · rw [settleReal_of_underflow hg (Int.not_le.1 hlow)] at hk
      cases hk
      rfl

end

section
variable {b : Bank} {payload raw : List Word} {ch k : Fin 128} {d : Descriptor} {y : Int}

theorem settlePrimary_split {f : RealFormat} (hmode : d.mode = .split) (hformat : d.outputFormat.split = .real f)
    (hresult : channelResult payload d = (some raw, some y)) :
    settlePrimary payload ch d = settleReal d f raw (splitFraction f y) := by
  simp only [settlePrimary, hresult, hmode, hformat, Option.getD_some]

/-- A companion settles the whole part of its split channel (R24). -/
theorem settleCompanion_whole {f : IntFormat} (howner : splitOwner b k = some ch)
    (hresult : channelResult payload (b.channel ch) = (some raw, some y)) (hformat : d.outputFormat.split = .int f) :
    settleCompanion b payload k d = settleInteger d.range f true raw (wholePart y) := by
  simp only [settleCompanion, howner, hresult, hformat, Option.getD_some]

/-- A sample with a value gives y by the transform. -/
theorem channelResult_some_iff :
    channelResult payload d = (some raw, some y) ↔ rawInput payload d.position d.inputFormat = some raw ∧
      ∃ x, decodeSample d.inputFormat d.inputNull raw = some x ∧ transform x (lrValue d.gain) (lrValue d.offset) = y := by
  unfold channelResult
  split
  · next hraw => simp [hraw]
  · next hraw =>
    rw [Prod.mk.injEq, Option.map_eq_some_iff, hraw]
    refine and_congr_right fun heq => ?_
    rw [Option.some.inj heq]

end

/-- Settles O50: truncation leaves a fraction of the sign of y, and the companion's owner is its split channel. -/
theorem splitPartsAddUp : Obligations.SplitPartsAddUp := by
  unfold Obligations.SplitPartsAddUp
  rw [← resultScale_eq]
  intro b payload ch f raw y d n g hkind hmode hformat hresult
  have hsettled : settlePrimary payload ch d = settleReal d f raw g := settlePrimary_split hmode hformat hresult
  refine ⟨fun hy => ?_, splitFraction_eq_zero f, hsettled, fun k hk => ?_, fun k h hcompanion hint hleast => ?_⟩
  · have hg : g = y.tmod (2 ^ resultScale) := splitFraction_eq_tmod f hy
    refine ⟨?_, natAbs_splitFraction_lt f y, fun hpos => hg ▸ Int.tmod_nonneg _ hpos, fun hneg => ?_⟩
    · rw [hg, Int.mul_comm]
      exact Int.mul_tdiv_add_tmod ..
    · have hflip := Int.tmod_nonneg (2 ^ resultScale) (Int.neg_nonneg_of_nonpos hneg)
      rw [Int.neg_tmod, ← hg] at hflip
      omega
  · rw [hsettled] at hk
    exact settleReal_condition_of_lt f (natAbs_splitFraction_lt f y) hk
  · exact settleCompanion_whole (splitOwner_of_least hkind hmode hcompanion hleast) hresult hint

/-- Settles O49: each format's sample decodes to its value, and no y reaches 2^4098. -/
theorem trueExponentIsExact : Obligations.TrueExponentIsExact := by
  refine ⟨?_, ?_⟩
  · intro payload d w position real short long constant isNull gives hw _ _
    have hlong (hi lo : Word) : ((lrFields (hi ++ lo)).value .lr : ℚ) / 2 ^ sampleScale = long hi lo := by
      rw [value_div, lrFields_append]
      rfl
    have hconstant (c : DoubleWord) : (lrValue c : ℚ) / 2 ^ sampleScale = constant c := (lrValue_div c).trans (hlong _ _)
    have hgives {raw : List Word} {x : Int} {value : ℚ} (hraw : rawInput payload d.position d.inputFormat = some raw)
        (hx : decodeSample d.inputFormat d.inputNull raw = some x) (hvalue : (x : ℚ) / 2 ^ sampleScale = value) : gives raw value := by
      refine ⟨_, channelResult_some_iff.2 ⟨hraw, x, hx, rfl⟩, ?_⟩
      rw [← hvalue, ← hconstant, ← hconstant]
      exact transform_div x _ _
    have hsingle (hf : d.inputFormat ≠ .lr) := rawInput_single hf hw
    refine ⟨fun hf hcode => ?_, fun hf hcode => ?_, fun hf hcode => ?_, fun hf hnull => ?_, fun lo hf hlo hnull => ?_⟩
    · exact hgives (hsingle (by rw [hf]; decide)) (decodeSample_int (k := .i16) (by rw [hf]; rfl) hcode) (int_div_scale _)
    · refine hgives (hsingle (by rw [hf]; decide)) (decodeSample_int (k := .ob16) (by rw [hf]; rfl) hcode)
        ((int_div_scale _).trans ?_)
      rw [integerValue, lowHalfUnsigned]
      push_cast
      rfl
    · exact hgives (hsingle (by rw [hf]; decide)) (decodeSample_int (k := .i32) (by rw [hf]; rfl)
        fun c hc heq => hcode (BitVec.eq_of_toInt_eq heq ▸ hc)) (int_div_scale _)
    · refine hgives (hsingle (by rw [hf]; decide)) (hf ▸ decodeSample_sr hnull) ?_
      rw [value_div]
      rfl
    · exact hgives (hf ▸ rawInput_double hw hlo) (hf ▸ decodeSample_lr hnull) (hlong w lo)
  · intro bounded
    have hbounded {y : Int} (hy : y.natAbs < 2 ^ resultBits) : bounded y := by
      intro f split mode v hv hne
      have hfraction : (splitFraction split y).natAbs < 2 ^ resultBits :=
        lt_of_lt_of_le (natAbs_splitFraction_lt split y) (Nat.pow_le_pow_right Nat.two_pos (by decide))
      exact roundReal_exponent_bounds f mode hne (hv.elim (fun h => h ▸ hy) fun h => h ▸ hfraction)
    have htransform {f : Format} {nullCode : Option Word} {raw : List Word} {x : Int} (gain offset : DoubleWord)
        (hx : decodeSample f nullCode raw = some x) : bounded (transform x (lrValue gain) (lrValue offset)) :=
      hbounded (natAbs_transform_lt (natAbs_decodeSample_le hx) (natAbs_lrValue_le gain) (natAbs_lrValue_le offset))
    refine ⟨fun payload d raw y h => ?_, fun f nullCode raw x gain offset hx => htransform gain offset hx⟩
    obtain ⟨-, x, hx, rfl⟩ := channelResult_some_iff.1 h
    exact htransform d.gain d.offset hx

end Sys2Proof.Machine
end
